-- ==== Sys2Proof/Word.lean ====
section
/-! DEFINITION. The two word types of the GRAID-RAU (spec 00_scope.md R8). -/

namespace Sys2Proof

/-- A host register, a command word, a position, a length: 64 bits (R8). -/
abbrev Word := BitVec 64

/-- A GF(256) element, a lane value, a parity byte, an opcode, a T or U field: 8 bits (R8). -/
abbrev Byte := BitVec 8

end Sys2Proof
end

