-- ==== Sys2Proof/Syntax.lean ====
section
/-! DEFINITION. The 17 commands as syntax (spec 30_encoding.md R70 to R77): mnemonics, formats, the
instruction type and the assembler's terms. -/

namespace Sys2Proof

/-- The three formats (R71): which of T and U a command uses. -/
inductive Format where
  | f0
  | ft
  | ftu
deriving DecidableEq, Repr

/-- The 17 command names of R74, in the table's order. -/
inductive Mnemonic where
  | nop | config | clracc
  | map | range | alignchk
  | xpEnc | xpAcc | xpEval | xpRec
  | gfMul | gfInv
  | r6Pq | r6Rec1 | r6Rec2 | r6Rec2Src | r6Read
deriving DecidableEq, Repr

/-- A command: one constructor per row of the opcode table (R74). T and U are 8-bit unsigned values
taken as they stand (R72): GF(256) elements for GF_MUL and GF_INV, disk indices elsewhere. -/
inductive Instr where
  /-- NOP (R100). -/
  | nop
  /-- CONFIG (R101). -/
  | config
  /-- CLRACC (R102). -/
  | clracc
  /-- MAP (R111). -/
  | map
  /-- RANGE (R117). -/
  | range
  /-- ALIGNCHK (R118). -/
  | alignchk
  /-- XP_ENC p (R133). -/
  | xpEnc (p : Byte)
  /-- XP_ACC (R131). -/
  | xpAcc
  /-- XP_EVAL p (R132). -/
  | xpEval (p : Byte)
  /-- XP_REC (R134). -/
  | xpRec
  /-- GF_MUL a, b (R153). -/
  | gfMul (a b : Byte)
  /-- GF_INV a (R154). -/
  | gfInv (a : Byte)
  /-- R6_PQ (R161). -/
  | r6Pq
  /-- R6_REC1 t (R162). -/
  | r6Rec1 (t : Byte)
  /-- R6_REC2 t, o (R163). -/
  | r6Rec2 (t o : Byte)
  /-- R6_REC2_SRC t, o (R164). -/
  | r6Rec2Src (t o : Byte)
  /-- R6_READ t (R165). -/
  | r6Read (t : Byte)
deriving DecidableEq, Repr

/-- The name of a command. -/
def Instr.mnemonic : Instr → Mnemonic
  | .nop => .nop
  | .config => .config
  | .clracc => .clracc
  | .map => .map
  | .range => .range
  | .alignchk => .alignchk
  | .xpEnc _ => .xpEnc
  | .xpAcc => .xpAcc
  | .xpEval _ => .xpEval
  | .xpRec => .xpRec
  | .gfMul _ _ => .gfMul
  | .gfInv _ => .gfInv
  | .r6Pq => .r6Pq
  | .r6Rec1 _ => .r6Rec1
  | .r6Rec2 _ _ => .r6Rec2
  | .r6Rec2Src _ _ => .r6Rec2Src
  | .r6Read _ => .r6Read

/-- An assembler term (R77): a mnemonic and its used fields in format order, each still a number that
the assembler has not checked. -/
structure Asm where
  mnemonic : Mnemonic
  operands : List Nat
deriving DecidableEq, Repr

/-- The operand fields a command uses, in format order, as the assembler writes them (R77). -/
def Instr.operands : Instr → List Nat
  | .xpEnc p => [p.toNat]
  | .xpEval p => [p.toNat]
  | .gfMul a b => [a.toNat, b.toNat]
  | .gfInv a => [a.toNat]
  | .r6Rec1 t => [t.toNat]
  | .r6Rec2 t o => [t.toNat, o.toNat]
  | .r6Rec2Src t o => [t.toNat, o.toNat]
  | .r6Read t => [t.toNat]
  | .nop | .config | .clracc | .map | .range | .alignchk | .xpAcc | .xpRec | .r6Pq => []

/-- The assembler term that writes a command. -/
def Instr.toAsm (i : Instr) : Asm := { mnemonic := i.mnemonic, operands := i.operands }

end Sys2Proof
end

