-- ==== Sys2Proof/WellFormed.lean ====
section
/-! DEFINITION. Which assembler terms and commands are well formed (spec 30_encoding.md R71, R74, R77).
The operands of `Instr` are 8-bit by type, so the checks are those of the assembler: the number of
operands the format has, and no value over 255. The RANGE of a disk index is no matter of form: the
command's own rule checks it when it runs and raises OPERAND (R72). -/

namespace Sys2Proof

/-- The format of each command (R74). -/
def Mnemonic.format : Mnemonic → Format
  | .xpEnc | .xpEval | .gfInv | .r6Rec1 | .r6Read => .ft
  | .gfMul | .r6Rec2 | .r6Rec2Src => .ftu
  | .nop | .config | .clracc | .map | .range | .alignchk | .xpAcc | .xpRec | .r6Pq => .f0

/-- How many operand fields a format uses (R71). -/
def Format.arity : Format → Nat
  | .f0 => 0
  | .ft => 1
  | .ftu => 2

/-- The term has as many operands as its command's format uses (R71, R77). -/
def Asm.arityOk (a : Asm) : Bool := a.operands.length == a.mnemonic.format.arity

/-- No operand is over 255 (R77). -/
def Asm.rangeOk (a : Asm) : Bool := a.operands.all (fun v => decide (v ≤ 255))

/-- The assembler accepts the term (R77). -/
def Asm.wellFormed (a : Asm) : Bool := a.arityOk && a.rangeOk

/-- A command is well formed when the assembler accepts the term that writes it. -/
def Instr.wellFormed (i : Instr) : Bool := i.toAsm.wellFormed

end Sys2Proof
end

