-- ==== Sys2Proof/Decode.lean ====
section
/-! DEFINITION. Command words to commands and back (spec 30_encoding.md R70 to R77, 20_memory.md R52).
A word is the 64-bit value the host writes to CMD. `decode` is total: it answers the one command whose
mask and match the word meets (R71), or says by name why the word is illegal (R75). -/

namespace Sys2Proof

/-- Why a word is illegal (R75). Both complete the command with ERR = ILLEGAL (0x10). -/
inductive DecodeError where
  /-- (a) OP is not one of the 17 assigned values. -/
  | unassignedOpcode (op : Byte)
  /-- (b) OP is assigned, but a bit outside the fields its format uses is 1. -/
  | unusedFieldNotZero (m : Mnemonic)
deriving DecidableEq, Repr

/-- The field OP, bits 7:0 (R70). -/
def opField (w : Word) : Byte := w.extractLsb' 0 8

/-- The field T, bits 15:8 (R70). -/
def tField (w : Word) : Byte := w.extractLsb' 8 8

/-- The field U, bits 23:16 (R70). -/
def uField (w : Word) : Byte := w.extractLsb' 16 8

/-- The opcode of each command (R74). -/
def Mnemonic.opcode : Mnemonic → Byte
  | .nop => 0x00
  | .config => 0x01
  | .clracc => 0x02
  | .map => 0x08
  | .range => 0x09
  | .alignchk => 0x0A
  | .xpEnc => 0x10
  | .xpAcc => 0x11
  | .xpEval => 0x12
  | .xpRec => 0x13
  | .gfMul => 0x20
  | .gfInv => 0x21
  | .r6Pq => 0x28
  | .r6Rec1 => 0x29
  | .r6Rec2 => 0x2A
  | .r6Rec2Src => 0x2B
  | .r6Read => 0x2C

/-- The 17 commands in the order of R74. -/
def Mnemonic.all : List Mnemonic :=
  [.nop, .config, .clracc, .map, .range, .alignchk, .xpEnc, .xpAcc, .xpEval, .xpRec, .gfMul, .gfInv,
    .r6Pq, .r6Rec1, .r6Rec2, .r6Rec2Src, .r6Read]

/-- The command whose opcode a byte is; none for the 239 unassigned bytes (R74, R75). -/
def Mnemonic.ofOpcode (op : Byte) : Option Mnemonic := Mnemonic.all.find? (fun m => m.opcode == op)

/-- The bits a format compares (R71, column "mask"): every bit outside T and U that it uses. -/
def Format.mask : Format → Word
  | .f0 => 0xFFFFFFFFFFFFFFFF
  | .ft => 0xFFFFFFFFFFFF00FF
  | .ftu => 0xFFFFFFFFFF0000FF

/-- match(X) of R71: the opcode in bits 7:0 and zeros elsewhere. -/
def Mnemonic.matchWord (m : Mnemonic) : Word := m.opcode.setWidth 64

/-- The command of a name with the fields T and U; a field its format does not use is dropped. -/
def Mnemonic.instr (m : Mnemonic) (t u : Byte) : Instr :=
  match m with
  | .nop => .nop
  | .config => .config
  | .clracc => .clracc
  | .map => .map
  | .range => .range
  | .alignchk => .alignchk
  | .xpEnc => .xpEnc t
  | .xpAcc => .xpAcc
  | .xpEval => .xpEval t
  | .xpRec => .xpRec
  | .gfMul => .gfMul t u
  | .gfInv => .gfInv t
  | .r6Pq => .r6Pq
  | .r6Rec1 => .r6Rec1 t
  | .r6Rec2 => .r6Rec2 t u
  | .r6Rec2Src => .r6Rec2Src t u
  | .r6Read => .r6Read t

/-- The command a word selects (R71), or the reason it is illegal (R75). -/
def decode (w : Word) : Except DecodeError Instr :=
  match Mnemonic.ofOpcode (opField w) with
  | none => .error (.unassignedOpcode (opField w))
  | some m =>
    if w &&& m.format.mask = m.matchWord then .ok (m.instr (tField w) (uField w))
    else .error (.unusedFieldNotZero m)

/-- enc(OP, T, U) of R73. -/
def enc (op t u : Byte) : Word :=
  op.setWidth 64 ||| (t.setWidth 64 <<< 8) ||| (u.setWidth 64 <<< 16)

/-- The T field a command's word holds: 0 for F0 (R73). -/
def Instr.t : Instr → Byte
  | .xpEnc p => p
  | .xpEval p => p
  | .gfMul a _ => a
  | .gfInv a => a
  | .r6Rec1 t => t
  | .r6Rec2 t _ => t
  | .r6Rec2Src t _ => t
  | .r6Read t => t
  | .nop | .config | .clracc | .map | .range | .alignchk | .xpAcc | .xpRec | .r6Pq => 0

/-- The U field a command's word holds: 0 for F0 and FT (R73). -/
def Instr.u : Instr → Byte
  | .gfMul _ b => b
  | .r6Rec2 _ o => o
  | .r6Rec2Src _ o => o
  | .nop | .config | .clracc | .map | .range | .alignchk | .xpAcc | .xpRec | .r6Pq => 0
  | .xpEnc _ | .xpEval _ | .gfInv _ | .r6Rec1 _ | .r6Read _ => 0

/-- The word of a command (R73). -/
def encode (i : Instr) : Word := enc i.mnemonic.opcode i.t i.u

/-- The assembler (R77): the command a well-formed term stands for; none where it refuses the term. -/
def assemble (a : Asm) : Option Instr :=
  if a.wellFormed then
    some (a.mnemonic.instr (BitVec.ofNat 8 (a.operands.getD 0 0)) (BitVec.ofNat 8 (a.operands.getD 1 0)))
  else none

/-- The 64-bit value that eight bytes carry, lowest address first: little-endian (20_memory.md R52). -/
def wordOfBytes : List Byte → Word
  | [] => 0
  | b :: bs => b.setWidth 64 ||| (wordOfBytes bs <<< 8)

/-- The eight bytes of a 64-bit value, lowest address first (20_memory.md R52). -/
def bytesOfWord (w : Word) : List Byte := (List.range 8).map (fun i => w.extractLsb' (8 * i) 8)

/-- The value whose bits nbits-1 to 0 are w's and whose other bits are 0. -/
def tableWord (nbits w : Nat) : Nat := w % 2 ^ nbits

/-- The instruction the decoder reads from the bits w of a row of the opcode table, given to it as the
eight bytes the bus carries; none where it refuses them, or where w has a bit no command word has. -/
def decodeTableWord (nbits w : Nat) : Option Instr :=
  if tableWord nbits w < 2 ^ 64 then
    match decode (wordOfBytes (bytesOfWord (BitVec.ofNat 64 (tableWord nbits w)))) with
    | .ok i => some i
    | .error _ => none
  else none

end Sys2Proof
end

