-- ==== Sys2Proof/Config.lean ====
section
/-! DEFINITION. The parameters of one instance of the block that the spec leaves open (00_scope.md R7):
NMAX, R5_DATA_ORDER and RAU_BASE. `Params` is the record of them that a state carries; the constants of
`Config` are the values of the machine `Sys2Proof.core` stands for, and have no body: nothing can be
proved of them (assumption log 1). -/

namespace Sys2Proof

/-- R5_DATA_ORDER (R7, 41_mapper.md R115): how the data blocks of a RAID 5 stripe are placed. -/
inductive R5Order where
  /-- Ascending disk order, skipping the parity disk. -/
  | asc
  /-- Starting after the parity disk, wrapping. -/
  | sym
deriving DecidableEq, Repr, Inhabited

/-- The open parameters of one instance (R7). The ranges of R7 hold by the types of the fields. -/
structure Params where
  /-- NMAX - 4, so that 4 <= NMAX <= 32 (D3). -/
  nmaxIndex : Fin 29
  /-- R5_DATA_ORDER (D7). -/
  r5DataOrder : R5Order
  /-- RAU_BASE / 256, so that the window is 256-byte aligned (D4, R55). -/
  baseBlock : Nat
deriving DecidableEq, Repr

/-- NMAX: the number of byte lanes and the largest disk count, 4 to 32 (R7). -/
def Params.nmax (p : Params) : Nat := p.nmaxIndex.val + 4

/-- RAU_BASE: the address of the register window (R7, R55). -/
def Params.base (p : Params) : Nat := 256 * p.baseBlock

namespace Config

/-- NMAX - 4 of the instance. OPEN (D3, log 1). -/
opaque nmaxIndex : Fin 29

/-- R5_DATA_ORDER of the instance: OPEN (D7, log 1). -/
opaque r5DataOrder : R5Order

/-- RAU_BASE / 256 of the instance: OPEN (D4, log 1). -/
opaque baseBlock : Nat

/-- The open parameters of the instance, together. -/
def params : Params := { nmaxIndex := nmaxIndex, r5DataOrder := r5DataOrder, baseBlock := baseBlock }

end Config

end Sys2Proof
end

