-- ==== Sys2Proof/Machine/State.lean ====
section
/-! DEFINITION. The machine's state as plain data: the registers of spec 10_state.md R21 to R33, the hidden
command latch and operand snapshot (R32), the open parameters of the instance (00_scope.md R7, log 1),
what the surroundings do next (log 2) and what the bus last returned (log 3). Reserved bits and reserved
slots have no storage (R33): the operations that read and write registers make them RAZ/WI. -/

namespace Sys2Proof.Machine

/-- The RAID levels (00_scope.md R14); their codes are `Level.code`. -/
inductive Level where
  | raid0
  | raid1
  | raid10
  | raid5
  | raid6
deriving DecidableEq, Repr

/-- The errors a command can report, and success (60_exceptions.md R200); their codes are `ErrCode.code`. -/
inductive ErrCode where
  | ok
  /-- ConfigurationError. -/
  | config
  /-- AlignmentError. -/
  | alignment
  /-- UnrecoverableErasureError. -/
  | unrecoverable
  /-- Unassigned opcode, or a non-zero bit outside the format's fields. -/
  | illegal
  /-- STATUS.CFGOK = 0. -/
  | nocfg
  /-- The active level is not the one the command needs. -/
  | level
  /-- A lane index out of range, t = o, or a range past 2^64-1. -/
  | operand
  /-- XP_REC with CHK.EVALID = 0. -/
  | sequence
  /-- GF_INV of 0. -/
  | domain
deriving DecidableEq, Repr

/-- STATUS (R23), its fields. -/
structure Status where
  busy : Bool
  done : Bool
  cfgok : Bool
  ovr : Bool
  err : Byte
  lastop : Byte
deriving DecidableEq, Repr

/-- CFG, and with the same layout ACFG (R24, R25), its fields. -/
structure Cfg where
  level : Byte
  n : Byte
  s : BitVec 32
deriving DecidableEq, Repr

/-- CHK (R29), its fields. -/
structure Chk where
  miss : BitVec 32
  mcnt : Byte
  evalid : Bool
  epar : Byte
deriving DecidableEq, Repr

/-- The lane file (R30) as its four registers LANEW0 to LANEW3. -/
structure LaneFile where
  w0 : Word
  w1 : Word
  w2 : Word
  w3 : Word
deriving DecidableEq, Repr

/-- SNAP (R32): the operand registers as they were when the running command was accepted. -/
structure Snapshot where
  cfg : Cfg
  pos : Word
  len : Word
  present : Word
  lanes : LaneFile
deriving DecidableEq, Repr

/-- What the surroundings of the block do in one step (00_scope.md R16, 20_memory.md R51, R56,
70_reset_and_hazards.md R230, R234; log 2). -/
inductive Event where
  /-- The host loads `width` bytes at `addr`. -/
  | load (addr width : Nat)
  /-- The host stores `value`, `width` bytes wide, at `addr`. -/
  | store (addr width : Nat) (value : Word)
  /-- The command engine gets its turn. -/
  | engine
  /-- The platform asserts the reset input. -/
  | reset
deriving DecidableEq, Repr

/-- The whole machine. -/
structure State where
  /-- The open parameters of the instance (00_scope.md R7); no step changes them. -/
  params : Params
  /-- STATUS (R23). -/
  status : Status
  /-- CFG (R24). -/
  cfg : Cfg
  /-- ACFG (R25). -/
  acfg : Cfg
  /-- POS (R26). -/
  pos : Word
  /-- LEN (R26). -/
  len : Word
  /-- PRESENT (R27). -/
  present : Word
  /-- NZ (R28). -/
  nz : Word
  /-- CHK (R29). -/
  chk : Chk
  /-- RES0 (R31). -/
  res0 : Word
  /-- RES1 (R31). -/
  res1 : Word
  /-- RES2 (R31). -/
  res2 : Word
  /-- RES3 (R31). -/
  res3 : Word
  /-- RES4 (R31). -/
  res4 : Word
  /-- RES5 (R31). -/
  res5 : Word
  /-- LANEW0 to LANEW3 (R30). -/
  lanes : LaneFile
  /-- CW, the command latch (R32). -/
  cw : Word
  /-- SNAP, the operand snapshot (R32). -/
  snap : Snapshot
  /-- What the host, the engine and the platform do next, oldest first (log 2). -/
  schedule : List Event
  /-- What the bus returned for the host's last admitted load; none before the first (log 3). -/
  rdata : Option Word
deriving DecidableEq, Repr

/-- Why the machine stops with a fault. No command raises one: command errors are codes in STATUS.ERR
(60_exceptions.md R200, R204). -/
inductive Fault where
  /-- Raised by a host load or store of which no byte lies in the register window: it is no access to
  the block (20_memory.md R50, R55). Safe: the block takes no step the spec does not give (log 4). -/
  | outsideWindow (addr width : Nat)
deriving DecidableEq, Repr

/-- Why the machine refuses a step. -/
inductive Refusal where
  /-- Raised by `exec` for a command that has no meaning yet; no arm raises it. Safe. -/
  | notModelled (mnemonic : String)
  /-- Raised by a host load or store in the window that the block does not admit: not 8 bytes wide, not
  8-byte aligned, or crossing the window's end ("The model refuses it", 20_memory.md R51;
  93_implementation_defined.md I1). Safe: the model stops where the platform's bus would answer (log 4). -/
  | badAccess (addr width : Nat)
deriving DecidableEq, Repr

/-- STATUS after reset (R23, R230). -/
def Status.zero : Status :=
  { busy := false, done := false, cfgok := false, ovr := false, err := 0, lastop := 0 }

/-- CFG, ACFG and SNAP.CFG after reset; ACFG also after a failed CONFIG (R24, R25, R230). -/
def Cfg.zero : Cfg := { level := 0, n := 0, s := 0 }

/-- CHK after reset, CLRACC and CONFIG (R29, R230). -/
def Chk.zero : Chk := { miss := 0, mcnt := 0, evalid := false, epar := 0 }

/-- The lane file after reset (R30, R230). -/
def LaneFile.zero : LaneFile := { w0 := 0, w1 := 0, w2 := 0, w3 := 0 }

/-- SNAP after reset (R230). -/
def Snapshot.zero : Snapshot :=
  { cfg := Cfg.zero, pos := 0, len := 0, present := 0, lanes := LaneFile.zero }

/-- The machine right after reset (70_reset_and_hazards.md R230, R231): every register 0, the latch and the
snapshot cleared, nothing scheduled. -/
def State.reset : State :=
  { params := Config.params
    status := Status.zero
    cfg := Cfg.zero
    acfg := Cfg.zero
    pos := 0
    len := 0
    present := 0
    nz := 0
    chk := Chk.zero
    res0 := 0
    res1 := 0
    res2 := 0
    res3 := 0
    res4 := 0
    res5 := 0
    lanes := LaneFile.zero
    cw := 0
    snap := Snapshot.zero
    schedule := []
    rdata := none }

end Sys2Proof.Machine
end

