-- ==== Sys2Proof/Machine/Operands.lean ====
section
/-! DEFINITION. The operand forms of the commands: the fields and word views of CFG and ACFG, the lane file and
its packing, PRESENT's live bits, the operand snapshot, the disk sets and the XOR over them, and NONE
(spec 00_scope.md R11 to R13, 10_state.md R24 to R32, 42_xor_parity.md, 44_raid6.md R160). -/

namespace Sys2Proof.Machine

/-- NONE (R13): a result that has no meaning for the active level. -/
def noneWord : Word := 0xFFFFFFFFFFFFFFFF

/-- The level codes (R24). -/
def Level.code : Level → Byte
  | .raid0 => 0x00
  | .raid1 => 0x01
  | .raid10 => 0x0A
  | .raid5 => 0x05
  | .raid6 => 0x06

/-- The level a LEVEL field names; none for every other value (R24). -/
def Level.ofCode (c : Byte) : Option Level :=
  [Level.raid0, Level.raid1, Level.raid10, Level.raid5, Level.raid6].find? (fun l => l.code == c)

/-- CFG and ACFG as the host reads them (R24): S in 63:32, 0 in 31:16, N in 15:8, LEVEL in 7:0. -/
def Cfg.word (c : Cfg) : Word := c.s ++ (0 : BitVec 16) ++ c.n ++ c.level

/-- The fields a host write of CFG stores; bits 31:16 are ignored (R24). -/
def Cfg.ofWord (v : Word) : Cfg :=
  { level := v.extractLsb' 0 8, n := v.extractLsb' 8 8, s := v.extractLsb' 32 32 }

/-- LANEW j (R30). -/
def LaneFile.reg (l : LaneFile) (j : Fin 4) : Word :=
  match j with
  | 0 => l.w0
  | 1 => l.w1
  | 2 => l.w2
  | 3 => l.w3

/-- The lane file with LANEW j replaced (R30). -/
def LaneFile.setReg (l : LaneFile) (j : Fin 4) (v : Word) : LaneFile :=
  match j with
  | 0 => { l with w0 := v }
  | 1 => { l with w1 := v }
  | 2 => { l with w2 := v }
  | 3 => { l with w3 := v }

/-- LANE[k]: bits 8i+7 to 8i of LANEW j for k = 8j + i (R30). There is no lane from 32 on: 0. -/
def LaneFile.lane (l : LaneFile) (k : Nat) : Byte :=
  match k / 8 with
  | 0 => l.w0.extractLsb' (8 * (k % 8)) 8
  | 1 => l.w1.extractLsb' (8 * (k % 8)) 8
  | 2 => l.w2.extractLsb' (8 * (k % 8)) 8
  | 3 => l.w3.extractLsb' (8 * (k % 8)) 8
  | _ => 0

/-- A word whose bits m-1 to 0 are 1. -/
def lowMask (m : Nat) : Word := BitVec.ofNat 64 (2 ^ m - 1)

/-- The bits of LANEW j that belong to lanes below NMAX; the others are RAZ/WI (R30). -/
def laneMask (nmax : Nat) (j : Fin 4) : Word := lowMask (8 * min 8 (nmax - 8 * j.val))

/-- The bits of PRESENT that exist: those below NMAX (R27). -/
def presentMask (nmax : Nat) : Word := lowMask nmax

/-- SNAP as it is taken at a command's acceptance (R32). -/
def State.takeSnap (s : State) : Snapshot :=
  { cfg := s.cfg, pos := s.pos, len := s.len, present := s.present, lanes := s.lanes }

/-- N, the active disk count (R25). -/
def State.disks (s : State) : Nat := s.acfg.n.toNat

/-- S, the active stripe size (R25). -/
def State.stripeSize (s : State) : Nat := s.acfg.s.toNat

/-- The active level (R25). -/
def State.level (s : State) : Option Level := Level.ofCode s.acfg.level

/-- LANE[k] of the running command: read from the snapshot (R12). -/
def State.lane (s : State) (k : Nat) : Byte := s.snap.lanes.lane k

/-- POS of the running command: read from the snapshot (R12). -/
def State.opPos (s : State) : Nat := s.snap.pos.toNat

/-- LEN of the running command: read from the snapshot (R12). -/
def State.opLen (s : State) : Nat := s.snap.len.toNat

/-- The set of the disks below n for which f holds, in rising order. -/
def diskSet (n : Nat) (f : Nat → Bool) : List Nat := (List.range n).filter f

/-- XOR_{k in K} e(k), 0 when K is empty (R11). -/
def xorOver (ks : List Nat) (e : Nat → Byte) : Byte := ks.foldr (fun k acc => e k ^^^ acc) 0

/-- The word whose bit k is 1 for the k of a set. -/
def maskOf (ks : List Nat) : Word := ks.foldr (fun k acc => BitVec.twoPow 64 k ||| acc) 0

/-- An 8-bit result, zero-extended to a result register (R31). -/
def byteResult (b : Byte) : Word := b.setWidth 64

/-- A mapper result, exact by 41_mapper.md R110. -/
def natResult (v : Nat) : Word := BitVec.ofNat 64 v

/-- A mapper result that may have no meaning for the level: NONE then (R13). -/
def optResult : Option Nat → Word
  | some v => natResult v
  | none => noneWord

end Sys2Proof.Machine
end

