-- ==== Sys2Proof/Machine/Flags.lean ====
section
/-! DEFINITION. The flags: STATUS and CHK as the host reads them, and what acceptance, completion, a dropped
CMD write and a write-one-to-clear do to STATUS (spec 10_state.md R22, R23, R29, R35; 60_exceptions.md R200). -/

namespace Sys2Proof.Machine

/-- The error codes (R200). -/
def ErrCode.code : ErrCode → Byte
  | .ok => 0x00
  | .config => 0x01
  | .alignment => 0x02
  | .unrecoverable => 0x03
  | .illegal => 0x10
  | .nocfg => 0x11
  | .level => 0x12
  | .operand => 0x13
  | .sequence => 0x14
  | .domain => 0x15

/-- STATUS as the host reads it (R23): LASTOP in 23:16, ERR in 15:8, OVR, CFGOK, DONE, BUSY in 3 to 0. -/
def Status.word (st : Status) : Word :=
  (0 : BitVec 40) ++ st.lastop ++ st.err ++ (0 : BitVec 4) ++ BitVec.ofBool st.ovr ++
    BitVec.ofBool st.cfgok ++ BitVec.ofBool st.done ++ BitVec.ofBool st.busy

/-- CHK as the host reads it (R29): EPAR in 55:48, EVALID in 40, MCNT in 39:32, MISS in 31:0. -/
def Chk.word (c : Chk) : Word :=
  (0 : BitVec 8) ++ c.epar ++ (0 : BitVec 7) ++ BitVec.ofBool c.evalid ++ c.mcnt ++ c.miss

/-- STATUS at the acceptance of a command (R22). -/
def Status.accepted (st : Status) : Status := { st with busy := true, done := false, err := 0 }

/-- STATUS at the completion of a command whose opcode byte is op, with the code e (R23). -/
def Status.completed (st : Status) (e : ErrCode) (op : Byte) : Status :=
  { st with busy := false, done := true, err := e.code, lastop := op }

/-- STATUS after a CMD write dropped because BUSY = 1 (R22). -/
def Status.overrun (st : Status) : Status := { st with ovr := true }

/-- STATUS after a host write of v to it: bit 3 = 1 clears OVR, nothing else changes (R23). -/
def Status.w1c (st : Status) (v : Word) : Status :=
  if v.getLsbD 3 then { st with ovr := false } else st

end Sys2Proof.Machine
end

