-- ==== Sys2Proof/Machine/Ops.lean ====
section
/-! DEFINITION. The named operations: completing a command (the block's one way of reporting an error, spec
60_exceptions.md R200 to R205, and of finishing without one), accepting one, reading and writing a register
of the window, and reset. -/

namespace Sys2Proof.Machine

/-! ## Completion and errors -/

/-- The completion of the running command with the code e (R23, R234 (c)): STATUS is all it writes.
Taking an error IS completing with e other than ok: the block takes no trap and fetches no vector, and
there is no return from an error (R204, R205). -/
def State.complete (s : State) (e : ErrCode) : State :=
  { s with status := s.status.completed e (opField s.cw) }

/-- A check of a command: whether it passes, and the error it raises where it fails. -/
abbrev Check := Bool × ErrCode

/-- The error of the first check that fails (R201: "The first that fails decides the reported code"). -/
def firstFailure : List Check → Option ErrCode
  | [] => none
  | (passes, e) :: rest => if passes then firstFailure rest else some e

/-- A command that makes the checks in order and then, if all pass, completes with the writes that turn
s into s' and the code e. A check that fails completes with its error and none of the writes (R203). -/
def finish (checks : List Check) (s s' : State) (e : ErrCode) : Host.Outcome State Fault Refusal :=
  match firstFailure checks with
  | some err => .next (s.complete err)
  | none => .next (s'.complete e)

/-- Check 2 of R201: the command needs a configuration. -/
def needsConfig (s : State) : Check := (s.status.cfgok, .nocfg)

/-- Check 3 of R201: the command needs the level l. -/
def needsLevel (s : State) (l : Level) : Check := (s.acfg.level == l.code, .level)

/-! ## Acceptance -/

/-- The unit accepts the command word w (R22, R32). -/
def State.accept (s : State) (w : Word) : State :=
  { s with cw := w, snap := s.takeSnap, status := s.status.accepted }

/-- A host write of w to CMD (R22): accepted when the unit is not busy, else dropped with OVR set. -/
def State.issue (s : State) (w : Word) : State :=
  if s.status.busy then { s with status := s.status.overrun } else s.accept w

/-! ## The register window -/

/-- The registers of R21 that have a name. -/
inductive Reg where
  | cmd | status | cfg | acfg | pos | len | present | nz | chk
  | res (i : Fin 6)
  | lanew (j : Fin 4)
deriving DecidableEq, Repr

/-- The offset of a register in the window (R21). -/
def Reg.offset : Reg → Nat
  | .cmd => 0x00
  | .status => 0x08
  | .cfg => 0x10
  | .acfg => 0x18
  | .pos => 0x20
  | .len => 0x28
  | .present => 0x30
  | .nz => 0x38
  | .chk => 0x40
  | .res i => 0x50 + 8 * i.val
  | .lanew j => 0x80 + 8 * j.val

/-- Every named register (R21). -/
def Reg.all : List Reg :=
  [.cmd, .status, .cfg, .acfg, .pos, .len, .present, .nz, .chk, .res 0, .res 1, .res 2, .res 3, .res 4,
    .res 5, .lanew 0, .lanew 1, .lanew 2, .lanew 3]

/-- The register at an offset; none for a reserved slot (R21, R33). -/
def Reg.ofOffset (off : Nat) : Option Reg := Reg.all.find? (fun r => r.offset == off)

/-- RES i (R31). -/
def State.result (s : State) (i : Fin 6) : Word :=
  match i with
  | 0 => s.res0
  | 1 => s.res1
  | 2 => s.res2
  | 3 => s.res3
  | 4 => s.res4
  | 5 => s.res5

/-- What a host read of a register returns (R21 to R31); CMD is write-only and reads 0. -/
def readReg (r : Reg) (s : State) : Word :=
  match r with
  | .cmd => 0
  | .status => s.status.word
  | .cfg => s.cfg.word
  | .acfg => s.acfg.word
  | .pos => s.pos
  | .len => s.len
  | .present => s.present
  | .nz => s.nz
  | .chk => s.chk.word
  | .res i => s.result i
  | .lanew j => s.lanes.reg j

/-- The write action of a register (R21 to R31); a write to a read-only register is ignored (R54). -/
def writeReg (r : Reg) (v : Word) (s : State) : State :=
  match r with
  | .cmd => s.issue v
  | .status => { s with status := s.status.w1c v }
  | .cfg => { s with cfg := Cfg.ofWord v }
  | .pos => { s with pos := v }
  | .len => { s with len := v }
  | .present => { s with present := v &&& presentMask s.params.nmax }
  | .lanew j => { s with lanes := s.lanes.setReg j (v &&& laneMask s.params.nmax j) }
  | .acfg => s
  | .nz => s
  | .chk => s
  | .res _ => s

/-- MemRead(off, 8) (R51): a reserved slot reads 0 (R33). -/
def readSlot (off : Nat) (s : State) : Word :=
  match Reg.ofOffset off with
  | some r => readReg r s
  | none => 0

/-- MemWrite(off, 8, v) (R51): a write to a reserved slot is ignored (R33). -/
def writeSlot (off : Nat) (v : Word) (s : State) : State :=
  match Reg.ofOffset off with
  | some r => writeReg r v s
  | none => s

/-- A host access the block admits (R51): 8 bytes wide, at a multiple of 8 in 0x00 to 0xF8. -/
def admitted (p : Params) (addr width : Nat) : Bool :=
  decide (width = 8) && decide (p.base ≤ addr) && decide ((addr - p.base) % 8 = 0) &&
    decide (addr - p.base ≤ 0xF8)

/-- Some byte of the access lies in the 256-byte window (R50, R55). -/
def touchesWindow (p : Params) (addr width : Nat) : Bool :=
  decide (0 < width) && decide (p.base < addr + width) && decide (addr < p.base + 256)

/-- How an access the block does not admit ends (R51, log 4). -/
def notAdmitted (p : Params) (addr width : Nat) : Host.Outcome State Fault Refusal :=
  if touchesWindow p addr width then .refused (.badAccess addr width)
  else .fault (.outsideWindow addr width)

/-- A host load (R51, R54): the bus returns the slot's value, and no register changes. -/
def hostLoad (addr width : Nat) (s : State) : Host.Outcome State Fault Refusal :=
  if admitted s.params addr width then
    .next { s with rdata := some (readSlot (addr - s.params.base) s) }
  else notAdmitted s.params addr width

/-- A host store (R51, R54): the write action of the slot. -/
def hostStore (addr width : Nat) (v : Word) (s : State) : Host.Outcome State Fault Refusal :=
  if admitted s.params addr width then .next (writeSlot (addr - s.params.base) v s)
  else notAdmitted s.params addr width

/-! ## Reset -/

/-- The reset input (70_reset_and_hazards.md R230, R231): every register, the latch and the snapshot are as
after reset, and a pending command is discarded. The instance's parameters, what the surroundings do
next and what the bus last returned are not the block's. -/
def State.assertReset (s : State) : State :=
  { State.reset with params := s.params, schedule := s.schedule, rdata := s.rdata }

end Sys2Proof.Machine
end

