-- ==== Sys2Proof/Machine/Control.lean ====
section
/-! DEFINITION. The control commands NOP, CONFIG and CLRACC (spec 40_control.md R100 to R103). -/

namespace Sys2Proof.Machine

/-- NOP (R100): the command only completes. -/
def execNop (s : State) : Host.Outcome State Fault Refusal := finish [] s s .ok

/-- Whether CONFIG accepts a configuration on a block of NMAX lanes (R101). -/
def configOk (nmax : Nat) (c : Cfg) : Bool :=
  (match Level.ofCode c.level with
    | some .raid0 => decide (2 ≤ c.n.toNat) && decide (1 ≤ c.s.toNat)
    | some .raid1 => decide (2 ≤ c.n.toNat)
    | some .raid10 => decide (4 ≤ c.n.toNat) && decide (c.n.toNat % 2 = 0) && decide (1 ≤ c.s.toNat)
    | some .raid5 => decide (3 ≤ c.n.toNat) && decide (1 ≤ c.s.toNat)
    | some .raid6 => decide (4 ≤ c.n.toNat) && decide (1 ≤ c.s.toNat)
    | none => false) && decide (c.n.toNat ≤ nmax)

/-- What an accepted configuration becomes in ACFG: S is 0 for RAID 1 (R101). -/
def activeCfg (c : Cfg) : Cfg :=
  { level := c.level, n := c.n, s := if c.level = Level.raid1.code then 0 else c.s }

/-- The writes of CLRACC, which CONFIG makes too: NZ and CHK are cleared (R101, R102). -/
def State.clearChecker (s : State) : State := { s with nz := 0, chk := Chk.zero }

/-- The writes of a CONFIG that succeeds (R101). -/
def State.configure (s : State) (c : Cfg) : State :=
  { s.clearChecker with acfg := c, status := { s.status with cfgok := true } }

/-- The writes of a CONFIG that fails, made although it raises CONFIG (R101, R203 (a)). -/
def State.unconfigure (s : State) : State :=
  { s.clearChecker with acfg := Cfg.zero, status := { s.status with cfgok := false } }

/-- CONFIG (R101). -/
def execConfig (s : State) : Host.Outcome State Fault Refusal :=
  if configOk s.params.nmax s.snap.cfg then finish [] s (s.configure (activeCfg s.snap.cfg)) .ok
  else finish [] s s.unconfigure .config

/-- CLRACC (R102). -/
def execClracc (s : State) : Host.Outcome State Fault Refusal := finish [] s s.clearChecker .ok

end Sys2Proof.Machine
end

