-- ==== Sys2Proof/Machine/Galois.lean ====
section
/-! DEFINITION. The GF(256) multiplier and inverse, GF_MUL and GF_INV (spec 43_gf.md R150 to R155). -/

namespace Sys2Proof.Machine

/-- `gfmulLoop k p a b` is k rounds of the shift-and-XOR loop of R150, from the values p, a and b. -/
def gfmulLoop : Nat → Byte → Byte → Byte → Byte
  | 0, p, _, _ => p
  | k + 1, p, a, b =>
    gfmulLoop k (if b.getLsbD 0 then p ^^^ a else p)
      (if a.getLsbD 7 then (a <<< 1) ^^^ 0x1D else a <<< 1) (b >>> 1)

/-- GF(256) multiplication (R150). -/
def gfmul (a b : Byte) : Byte := gfmulLoop 8 0 a b

/-- The first x from x0 on, among k candidates, with gfmul(a, x) = 1 (R152). -/
def gfinvSearch (a : Byte) : Nat → Nat → Option Byte
  | 0, _ => none
  | k + 1, x0 =>
    if gfmul a (BitVec.ofNat 8 x0) = 1 then some (BitVec.ofNat 8 x0) else gfinvSearch a k (x0 + 1)

/-- GF(256) inverse by the search over 1 to 255 (R152). 0 has none; where the search finds nothing the
value is 0, and no command reads it: GF_INV 0 raises DOMAIN, and the solve inverts A ≠ 0 (log 6). -/
def gfinv (a : Byte) : Byte := (gfinvSearch a 255 1).getD 0

/-- GF_MUL a, b (R153). -/
def execGfMul (a b : Byte) (s : State) : Host.Outcome State Fault Refusal :=
  finish [] s { s with res0 := byteResult (gfmul a b) } .ok

/-- GF_INV a (R154). -/
def execGfInv (a : Byte) (s : State) : Host.Outcome State Fault Refusal :=
  finish [(decide (a ≠ 0), .domain)] s { s with res0 := byteResult (gfinv a) } .ok

end Sys2Proof.Machine
end

