-- ==== Sys2Proof/Machine/Mapper.lean ====
section
/-! DEFINITION. The address mapper MAP, RANGE and ALIGNCHK (spec 41_mapper.md R110 to R120). Every quantity is an
exact natural number; it is narrowed to 64 bits only when it is written to a result register (R110). -/

namespace Sys2Proof.Machine

/-- The six results of MAP by their meaning (R111); none where a result has no meaning for the level. -/
structure Mapping where
  /-- RES0: stripe index or stripe number. -/
  stripe : Option Nat
  /-- RES1: the disk that holds the data byte. -/
  disk : Nat
  /-- RES2: the intra-disk offset. -/
  offset : Nat
  /-- RES3: the pair's other disk, the parity disk or the P disk. -/
  second : Option Nat
  /-- RES4: the Q disk. -/
  third : Option Nat
  /-- RES5: the byte within the chunk, or the data block index. -/
  inner : Option Nat
deriving DecidableEq, Repr

/-- MAP at RAID 0, with n disks and stripe size sz (R112). -/
def mapRaid0 (n sz pos : Nat) : Mapping :=
  let sn := pos / sz
  { stripe := some sn, disk := sn % n, offset := sn / n * sz + pos % sz
    second := none, third := none, inner := some (pos % sz) }

/-- MAP at RAID 1 (R113). -/
def mapRaid1 (pos : Nat) : Mapping :=
  { stripe := none, disk := 0, offset := pos, second := none, third := none, inner := none }

/-- MAP at RAID 10 (R114). -/
def mapRaid10 (n sz pos : Nat) : Mapping :=
  let h := n / 2
  let sn := pos / sz
  let pr := sn % h
  { stripe := some sn, disk := 2 * pr, offset := sn / h * sz + pos % sz
    second := some (2 * pr + 1), third := none, inner := some (pos % sz) }

/-- The disk of data block k in a RAID 5 stripe whose parity disk is p (R115). -/
def dataDisk (order : R5Order) (n k p : Nat) : Nat :=
  match order with
  | .asc => if k < p then k else k + 1
  | .sym => (p + 1 + k) % n

/-- MAP at RAID 5 (R115). -/
def mapRaid5 (order : R5Order) (n sz pos : Nat) : Mapping :=
  let sds := (n - 1) * sz
  let st := pos / sds
  let w := pos % sds
  let k := w / sz
  let b := w % sz
  let p := st % n
  { stripe := some st, disk := dataDisk order n k p, offset := st * sz + b
    second := some p, third := none, inner := some k }

/-- MAP at RAID 6 (R116). -/
def mapRaid6 (n sz pos : Nat) : Mapping :=
  let sds := (n - 2) * sz
  let st := pos / sds
  let w := pos % sds
  let k := w / sz
  let b := w % sz
  { stripe := some st, disk := k, offset := st * sz + b
    second := some (n - 2), third := some (n - 1), inner := some k }

/-- MAP at a level (R111). -/
def mapAt (l : Level) (order : R5Order) (n sz pos : Nat) : Mapping :=
  match l with
  | .raid0 => mapRaid0 n sz pos
  | .raid1 => mapRaid1 pos
  | .raid10 => mapRaid10 n sz pos
  | .raid5 => mapRaid5 order n sz pos
  | .raid6 => mapRaid6 n sz pos

/-- The writes of MAP: all six result registers (R111). -/
def State.putMapping (s : State) (m : Mapping) : State :=
  { s with
    res0 := optResult m.stripe
    res1 := natResult m.disk
    res2 := natResult m.offset
    res3 := optResult m.second
    res4 := optResult m.third
    res5 := optResult m.inner }

/-- MAP (R111). While CFGOK = 1 the level is always one of the five (R25); for a state that no run
reaches, where it is not, the command reports LEVEL (log 7). -/
def execMap (s : State) : Host.Outcome State Fault Refusal :=
  match s.level with
  | some l =>
    finish [needsConfig s] s
      (s.putMapping (mapAt l s.params.r5DataOrder s.disks s.stripeSize s.opPos)) .ok
  | none => finish [needsConfig s, (false, .level)] s s .ok

/-- G, the bytes of logical data per stripe of RANGE (R117); none for RAID 1, which has no stripes. -/
def stripeUnit (l : Option Level) (n sz : Nat) : Option Nat :=
  match l with
  | some .raid0 => some sz
  | some .raid10 => some sz
  | some .raid5 => some ((n - 1) * sz)
  | some .raid6 => some ((n - 2) * sz)
  | some .raid1 => none
  | none => none

/-- The writes of RANGE with stripe unit g (R117). -/
def State.putRange (s : State) (g pos len : Nat) : State :=
  if len = 0 then
    { s with res0 := natResult (pos / g), res1 := natResult (pos / g), res2 := 0, res3 := natResult g }
  else
    let f := pos / g
    let l := (pos + len - 1) / g
    { s with res0 := natResult f, res1 := natResult l, res2 := natResult (l - f + 1), res3 := natResult g }

/-- RANGE's operand check: the range is empty or ends at 2^64-1 at most (R117). -/
def rangeFits (pos len : Nat) : Bool := decide (len = 0) || decide (len ≤ 2 ^ 64 - pos)

/-- RANGE (R117). -/
def execRange (s : State) : Host.Outcome State Fault Refusal :=
  match stripeUnit s.level s.disks s.stripeSize with
  | some g =>
    finish [needsConfig s, (rangeFits s.opPos s.opLen, .operand)] s (s.putRange g s.opPos s.opLen) .ok
  | none => finish [needsConfig s, (false, .level)] s s .ok

/-- ALIGNCHK's test: RAID 5 needs POS at a multiple of the stripe data size, no other level (R118). -/
def aligned (s : State) : Bool :=
  if s.acfg.level = Level.raid5.code then decide (s.opPos % ((s.disks - 1) * s.stripeSize) = 0) else true

/-- ALIGNCHK (R118). -/
def execAlignchk (s : State) : Host.Outcome State Fault Refusal :=
  finish [needsConfig s, (aligned s, .alignment)] s s .ok

end Sys2Proof.Machine
end

