-- ==== Sys2Proof/Machine/Raid6.lean ====
section
/-! DEFINITION. The RAID 6 commands R6_PQ, R6_REC1, R6_REC2, R6_REC2_SRC and R6_READ (spec 44_raid6.md R160 to
R167). -/

namespace Sys2Proof.Machine

/-- How many data lanes there are: N - 2 (R160). -/
def State.dataLanes (s : State) : Nat := s.disks - 2

/-- The byte of P: lane N-2 (R160). -/
def State.pLane (s : State) : Byte := s.lane (s.disks - 2)

/-- The byte of Q: lane N-1 (R160). -/
def State.qLane (s : State) : Byte := s.lane (s.disks - 1)

/-- The Q coefficient of data lane k: the integer k + 1 (R160). -/
def qCoeff (k : Nat) : Byte := BitVec.ofNat 8 (k + 1)

/-- D without the lanes of a list (R160, R162, R163). -/
def dataWithout (s : State) (erased : List Nat) : List Nat :=
  diskSet s.dataLanes (fun k => !erased.contains k)

/-- Pof(K) (R160). -/
def pOf (s : State) (ks : List Nat) : Byte := xorOver ks s.lane

/-- Qof(K) (R160). -/
def qOf (s : State) (ks : List Nat) : Byte := xorOver ks (fun k => gfmul (qCoeff k) (s.lane k))

/-- The byte of lane t rebuilt from P (R162). -/
def rebuildFromP (s : State) (t : Nat) : Byte := s.pLane ^^^ pOf s (dataWithout s [t])

/-- b of R163: P xor the XOR of the surviving data lanes. -/
def solveB (s : State) (t o : Nat) : Byte := s.pLane ^^^ pOf s (dataWithout s [t, o])

/-- c of R163: Q xor the weighted XOR of the surviving data lanes. -/
def solveC (s : State) (t o : Nat) : Byte := s.qLane ^^^ qOf s (dataWithout s [t, o])

/-- A of R163: coeffA. -/
def coeffA (t o : Nat) : Byte := qCoeff t ^^^ qCoeff o

/-- dt of R163: the solved byte of lane t. -/
def solveT (s : State) (t o : Nat) : Byte :=
  gfmul (solveC s t o ^^^ gfmul (qCoeff o) (solveB s t o)) (gfinv (coeffA t o))

/-- r of R164: the source's literal formula. -/
def sourceFormula (s : State) (t o : Nat) : Byte :=
  gfmul (solveC s t o) (gfinv (coeffA t o)) ^^^ solveB s t o

/-- Z of R165: the data lanes that are 0. -/
def zeroLanes (s : State) : List Nat := diskSet s.dataLanes (fun k => decide (s.lane k = 0))

/-- t names a data lane (R162 to R165). -/
def isDataLane (s : State) (t : Byte) : Bool := decide (t.toNat < s.dataLanes)

/-- t and o are two distinct data lanes (R163, R164). -/
def areTwoDataLanes (s : State) (t o : Byte) : Bool :=
  isDataLane s t && isDataLane s o && decide (t ≠ o)

/-- R6_PQ (R161). -/
def execR6Pq (s : State) : Host.Outcome State Fault Refusal :=
  let d := dataWithout s []
  finish [needsConfig s, needsLevel s .raid6] s
    { s with res0 := byteResult (pOf s d), res1 := byteResult (qOf s d) } .ok

/-- R6_REC1 t (R162). -/
def execR6Rec1 (t : Byte) (s : State) : Host.Outcome State Fault Refusal :=
  finish [needsConfig s, needsLevel s .raid6, (isDataLane s t, .operand)] s
    { s with res0 := byteResult (rebuildFromP s t.toNat) } .ok

/-- R6_REC2 t, o (R163). -/
def execR6Rec2 (t o : Byte) (s : State) : Host.Outcome State Fault Refusal :=
  let dt := solveT s t.toNat o.toNat
  finish [needsConfig s, needsLevel s .raid6, (areTwoDataLanes s t o, .operand)] s
    { s with res0 := byteResult dt, res1 := byteResult (solveB s t.toNat o.toNat ^^^ dt) } .ok

/-- R6_REC2_SRC t, o (R164). -/
def execR6Rec2Src (t o : Byte) (s : State) : Host.Outcome State Fault Refusal :=
  let r := sourceFormula s t.toNat o.toNat
  finish [needsConfig s, needsLevel s .raid6, (areTwoDataLanes s t o, .operand)] s
    { s with res0 := byteResult r, res1 := byteResult r } .ok

/-- The element of Z other than t (R165, path 2). -/
def otherZeroLane (zs : List Nat) (t : Nat) : Nat := (zs.filter (fun k => decide (k ≠ t))).headD t

/-- The writes of R6_READ t on its three paths (R165). -/
def State.putRead (s : State) (t : Nat) : State :=
  let zs := zeroLanes s
  if s.lane t ≠ 0 then
    { s with res0 := byteResult (s.lane t), res1 := 0, res2 := natResult zs.length }
  else if zs.length = 1 then
    { s with res0 := byteResult (rebuildFromP s t), res1 := 1, res2 := 1 }
  else
    { s with res0 := byteResult (solveT s t (otherZeroLane zs t)), res1 := 2, res2 := 2 }

/-- R6_READ t (R165): with lane t 0 and three or more zero data lanes it raises UNRECOVERABLE. -/
def execR6Read (t : Byte) (s : State) : Host.Outcome State Fault Refusal :=
  finish [needsConfig s, needsLevel s .raid6, (isDataLane s t, .operand),
    (decide (s.lane t.toNat ≠ 0) || decide ((zeroLanes s).length ≤ 2), .unrecoverable)] s
    (s.putRead t.toNat) .ok

end Sys2Proof.Machine
end

