-- ==== Sys2Proof/Machine/XorParity.lean ====
section
/-! DEFINITION. The XOR parity encoder and checker XP_ENC, XP_ACC, XP_EVAL and XP_REC (spec 42_xor_parity.md
R130 to R136). -/

namespace Sys2Proof.Machine

/-- The disks other than p (R133). -/
def otherDisks (n p : Nat) : List Nat := diskSet n (fun k => decide (k ≠ p))

/-- The XOR of the lanes of all disks but p (R133, R134). -/
def parityWithout (s : State) (p : Nat) : Byte := xorOver (otherDisks s.disks p) s.lane

/-- XP_ENC p (R133). -/
def execXpEnc (p : Byte) (s : State) : Host.Outcome State Fault Refusal :=
  finish [needsConfig s, needsLevel s .raid5, (decide (p.toNat < s.disks), .operand)] s
    { s with res0 := byteResult (parityWithout s p.toNat) } .ok

/-- The disks whose lane is not 0 (R131). -/
def nonZeroLanes (s : State) : List Nat := diskSet s.disks (fun k => decide (s.lane k ≠ 0))

/-- XP_ACC (R131). -/
def execXpAcc (s : State) : Host.Outcome State Fault Refusal :=
  finish [needsConfig s, needsLevel s .raid5] s { s with nz := s.nz ||| maskOf (nonZeroLanes s) } .ok

/-- M of R132: the data disks of the stripe that are too short or whose block is all zero. -/
def missingDisks (n p : Nat) (present nz : Word) : List Nat :=
  diskSet n (fun k => decide (k ≠ p) && (!present.getLsbD k || !nz.getLsbD k))

/-- CHK after XP_EVAL judged the set ms with parity disk p (R132). -/
def Chk.judged (p : Byte) (ms : List Nat) : Chk :=
  { miss := (maskOf ms).setWidth 32, mcnt := BitVec.ofNat 8 ms.length, evalid := true, epar := p }

/-- XP_EVAL p (R132): CHK is written also when it raises UNRECOVERABLE (R203 (b)). -/
def execXpEval (p : Byte) (s : State) : Host.Outcome State Fault Refusal :=
  let ms := missingDisks s.disks p.toNat s.snap.present s.nz
  finish [needsConfig s, needsLevel s .raid5, (decide (p.toNat < s.disks), .operand)] s
    { s with chk := Chk.judged p ms } (if 2 ≤ ms.length then .unrecoverable else .ok)

/-- The index of the one bit of CHK.MISS (R134); 32 where no bit is set, which with MCNT = 1 no run
reaches (log 7). -/
def missIndex (miss : BitVec 32) : Nat := ((List.range 32).find? miss.getLsbD).getD 32

/-- The writes of XP_REC (R134). -/
def State.putRebuilt (s : State) : State :=
  if s.chk.mcnt = 0 then { s with res0 := 0, res1 := noneWord }
  else
    let m := missIndex s.chk.miss
    { s with res0 := byteResult (parityWithout s m), res1 := natResult m }

/-- XP_REC (R134). -/
def execXpRec (s : State) : Host.Outcome State Fault Refusal :=
  finish [needsConfig s, needsLevel s .raid5, (s.chk.evalid, .sequence),
    (decide (s.chk.mcnt.toNat < 2), .unrecoverable)] s s.putRebuilt .ok

end Sys2Proof.Machine
end

