-- ==== Sys2Proof/Machine/Dispatch.lean ====
section
/-! DEFINITION. The execution and completion of one command, one arm per command (spec 30_encoding.md R74). -/

namespace Sys2Proof.Machine

def exec (i : Instr) (s : State) : Host.Outcome State Fault Refusal :=
  match i with
  | .nop => Sys2Proof.Machine.execNop s
  | .config => Sys2Proof.Machine.execConfig s
  | .clracc => Sys2Proof.Machine.execClracc s
  | .map => Sys2Proof.Machine.execMap s
  | .range => Sys2Proof.Machine.execRange s
  | .alignchk => Sys2Proof.Machine.execAlignchk s
  | .xpEnc p => Sys2Proof.Machine.execXpEnc p s
  | .xpAcc => Sys2Proof.Machine.execXpAcc s
  | .xpEval p => Sys2Proof.Machine.execXpEval p s
  | .xpRec => Sys2Proof.Machine.execXpRec s
  | .gfMul a b => Sys2Proof.Machine.execGfMul a b s
  | .gfInv a => Sys2Proof.Machine.execGfInv a s
  | .r6Pq => Sys2Proof.Machine.execR6Pq s
  | .r6Rec1 t => Sys2Proof.Machine.execR6Rec1 t s
  | .r6Rec2 t o => Sys2Proof.Machine.execR6Rec2 t o s
  | .r6Rec2Src t o => Sys2Proof.Machine.execR6Rec2Src t o s
  | .r6Read t => Sys2Proof.Machine.execR6Read t s

end Sys2Proof.Machine
end

