-- ==== Sys2Proof/Machine/Engine.lean ====
section
/-! DEFINITION. The turns of the agents: the command engine, the host and the reset input (spec 00_scope.md R16,
20_memory.md R51, R56, 70_reset_and_hazards.md R230, R234), and the host-program primitives of
30_encoding.md R78 as lists of such turns. -/

namespace Sys2Proof.Machine

/-- The command engine's atomic step (R234 (b), (c)), enabled while BUSY = 1: the latched word's command
runs and completes, and an illegal word completes with ILLEGAL (R75). While BUSY = 0 the block is idle
and all its state survives (60_exceptions.md R214). -/
def engineTurn (s : State) : Host.Outcome State Fault Refusal :=
  if s.status.busy then
    match decode s.cw with
    | .ok i => exec i s
    | .error _ => .next (s.complete .illegal)
  else .next s

/-- One turn of the surroundings (R56, log 2). -/
def turn (e : Event) (s : State) : Host.Outcome State Fault Refusal :=
  match e with
  | .load addr width => hostLoad addr width s
  | .store addr width v => hostStore addr width v s
  | .engine => engineTurn s
  | .reset => .next s.assertReset

/-- The first entry of the schedule leaves it. -/
def State.popped (s : State) (rest : List Event) : State := { s with schedule := rest }

/-- The state in which the command word w has just been accepted and the engine has the next turn. -/
def State.withPending (s : State) (w : Word) : State :=
  { s.accept w with schedule := .engine :: s.schedule }

/-! ## Host-program primitives (30_encoding.md R78) -/

/-- `WR reg, value`. -/
def hostWR (p : Params) (r : Reg) (v : Word) : List Event := [.store (p.base + r.offset) 8 v]

/-- `RD reg`. -/
def hostRD (p : Params) (r : Reg) : List Event := [.load (p.base + r.offset) 8]

/-- `WAIT`, on a schedule where the engine completes after `polls` reads of STATUS that return BUSY = 1
(LAT is any finite time, R240): the next read returns BUSY = 0 and ends the wait. -/
def hostWAIT (p : Params) (polls : Nat) : List Event :=
  (List.replicate polls (hostRD p .status)).flatten ++ [.engine] ++ hostRD p .status

/-- `EXEC command`. -/
def hostEXEC (p : Params) (polls : Nat) (i : Instr) : List Event :=
  hostWR p .cmd (encode i) ++ hostWAIT p polls

/-- `SETCFG level, N, S`. -/
def hostSETCFG (p : Params) (polls : Nat) (level n : Byte) (sz : BitVec 32) : List Event :=
  hostWR p .cfg (level.setWidth 64 ||| (n.setWidth 64 <<< 8) ||| (sz.setWidth 64 <<< 32)) ++
    hostEXEC p polls .config

/-- The value `SETLANES v0, …, v(m-1)` writes to LANEW j. -/
def lanesWord (vs : List Byte) (j : Nat) : Word := wordOfBytes ((vs.drop (8 * j)).take 8)

/-- `SETLANES v0, …, v(m-1)`: LANEW j for each j with 8j < m. -/
def hostSETLANES (p : Params) (vs : List Byte) : List Event :=
  ((List.finRange 4).filter (fun j => decide (8 * j.val < vs.length))).flatMap
    (fun j => hostWR p (.lanew j) (lanesWord vs j.val))

/-- `GF_SQR a` is `GF_MUL a, a`. -/
def gfSqr (a : Byte) : Instr := .gfMul a a

end Sys2Proof.Machine
end

