-- ==== Sys2Proof/Machine/Step.lean ====
section
/-! DEFINITION. One step of the machine: the next turn of the schedule; with nothing scheduled, the engine's
turn (log 2). Three outcomes: a next state, a fault, a refusal. -/

namespace Sys2Proof.Machine

/-- One step. The schedule says who moves (20_memory.md R56, 70_reset_and_hazards.md R234). With an empty
schedule a pending command completes (weak fairness, R234), and an idle block stays as it is. -/
def step (s : State) : Host.Outcome State Fault Refusal :=
  match s.schedule with
  | [] => engineTurn s
  | e :: rest => turn e (s.popped rest)

/-- s with the command word of the bits w accepted and the engine's turn next, so that the very next step
runs it. It stands for the host's CMD write being accepted (10_state.md R22, R32; log 2). -/
def State.withFetchWord (s : State) (nbits w : Nat) : State :=
  s.withPending (BitVec.ofNat 64 (tableWord nbits w))

end Sys2Proof.Machine
end

