-- ==== Sys2Proof/Safety.lean ====
section
/-! DEFINITION. The terms the statements use: when a configuration is legal, the invariant of the machine, what a
completion leaves, the register table, which errors a command may report, and the GF(256) product as
polynomial arithmetic. They restate the spec on their own, without calling the meanings they speak about. -/

namespace Sys2Proof.Machine

/-! ## What a completion leaves -/

/-- STATUS after the running command completed with an error code (10_state.md R23). -/
def State.doneStatus (s : State) (code : Byte) : Status :=
  { busy := false, done := true, cfgok := s.status.cfgok, ovr := s.status.ovr, err := code
    lastop := s.cw.extractLsb' 0 8 }

/-- s after its running command completed with a code and no other write (R23, 60_exceptions.md R203). -/
def State.completedWith (s : State) (code : Byte) : State := { s with status := s.doneStatus code }

/-- The engine has the next turn, and rest is the schedule after it (70_reset_and_hazards.md R234, log 2). -/
def EngineHasTurn (s : State) (rest : List Event) : Prop :=
  s.schedule = .engine :: rest ∨ (s.schedule = [] ∧ rest = [])

/-! ## Configurations -/

/-- CONFIG's constraints on LEVEL, N and S, for a block of nmax lanes (40_control.md R101). -/
def LegalCfg (nmax : Nat) (c : Cfg) : Prop :=
  c.n.toNat ≤ nmax ∧
    ((c.level = 0x00 ∧ 2 ≤ c.n.toNat ∧ 1 ≤ c.s.toNat) ∨
      (c.level = 0x01 ∧ 2 ≤ c.n.toNat) ∨
      (c.level = 0x0A ∧ 4 ≤ c.n.toNat ∧ c.n.toNat % 2 = 0 ∧ 1 ≤ c.s.toNat) ∨
      (c.level = 0x05 ∧ 3 ≤ c.n.toNat ∧ 1 ≤ c.s.toNat) ∨
      (c.level = 0x06 ∧ 4 ≤ c.n.toNat ∧ 1 ≤ c.s.toNat))

/-- The block is configured and its active level is the one of the code (10_state.md R23, R25). -/
def ActiveAt (s : State) (level : Byte) : Prop := s.status.cfgok = true ∧ s.acfg.level = level

/-! ## The invariant -/

/-- Bits NMAX to 63 of a word are 0 (10_state.md R27, R28). -/
def HighBitsZero (nmax : Nat) (w : Word) : Prop := ∀ k, nmax ≤ k → w.getLsbD k = false

/-- The lanes from NMAX on are 0 (10_state.md R30). -/
def HighLanesZero (nmax : Nat) (l : LaneFile) : Prop := ∀ k, nmax ≤ k → l.lane k = 0

/-- The codes of 60_exceptions.md R200 that are ever written to STATUS.ERR. -/
def reportedCodes : List Byte := [0x00, 0x01, 0x02, 0x03, 0x10, 0x11, 0x12, 0x13, 0x14, 0x15]

/-- CHK is clear, or it holds the result of an XP_EVAL under the active RAID 5 configuration
(10_state.md R29, 42_xor_parity.md R132). -/
def ChkConsistent (s : State) : Prop :=
  (s.chk = { miss := 0, mcnt := 0, evalid := false, epar := 0 }) ∨
    (s.chk.evalid = true ∧ ActiveAt s 0x05 ∧ s.chk.epar.toNat < s.acfg.n.toNat ∧
      s.chk.miss.getLsbD s.chk.epar.toNat = false ∧
      (∀ k, s.acfg.n.toNat ≤ k → s.chk.miss.getLsbD k = false) ∧
      s.chk.mcnt.toNat = ((List.range 32).filter (fun k => s.chk.miss.getLsbD k)).length)

/-- What every reachable state keeps: ACFG is legal exactly while CFGOK = 1 and 0 otherwise (R25); what
lies beyond NMAX reads 0 (R27, R28, R30), and NZ beyond N (42_xor_parity.md R131); BUSY and DONE are not
both 1, and ERR is 0 while BUSY (R22, R23); ERR is a code of R200; CHK is consistent (R29). -/
structure StateInvariant (s : State) : Prop where
  configured : s.status.cfgok = true → LegalCfg s.params.nmax s.acfg
  raid1NoS : s.acfg.level = 0x01 → s.acfg.s = 0
  unconfigured : s.status.cfgok = false → s.acfg = { level := 0, n := 0, s := 0 }
  presentHigh : HighBitsZero s.params.nmax s.present
  snapPresentHigh : HighBitsZero s.params.nmax s.snap.present
  nzHigh : HighBitsZero s.acfg.n.toNat s.nz
  lanesHigh : HighLanesZero s.params.nmax s.lanes
  snapLanesHigh : HighLanesZero s.params.nmax s.snap.lanes
  busyNotDone : ¬(s.status.busy = true ∧ s.status.done = true)
  busyNoErr : s.status.busy = true → s.status.err = 0
  errKnown : s.status.err ∈ reportedCodes
  chkConsistent : ChkConsistent s

/-! ## Which errors a command may report (60_exceptions.md R200, column "raised by") -/

/-- The codes a legal command of a name may complete with. -/
def codesOf : Mnemonic → List Byte
  | .nop | .clracc | .gfMul => [0x00]
  | .config => [0x00, 0x01]
  | .map => [0x00, 0x11]
  | .range => [0x00, 0x11, 0x12, 0x13]
  | .alignchk => [0x00, 0x11, 0x02]
  | .xpEnc => [0x00, 0x11, 0x12, 0x13]
  | .xpAcc => [0x00, 0x11, 0x12]
  | .xpEval => [0x00, 0x11, 0x12, 0x13, 0x03]
  | .xpRec => [0x00, 0x11, 0x12, 0x14, 0x03]
  | .gfInv => [0x00, 0x15]
  | .r6Pq => [0x00, 0x11, 0x12]
  | .r6Rec1 | .r6Rec2 | .r6Rec2Src => [0x00, 0x11, 0x12, 0x13]
  | .r6Read => [0x00, 0x11, 0x12, 0x13, 0x03]

/-- The XOR parity commands, which need RAID 5 (30_encoding.md R74). -/
def xpCommands : List Mnemonic := [.xpEnc, .xpAcc, .xpEval, .xpRec]

/-- The RAID 6 commands, which need RAID 6 (30_encoding.md R74). -/
def r6Commands : List Mnemonic := [.r6Pq, .r6Rec1, .r6Rec2, .r6Rec2Src, .r6Read]

/-- The commands that need no configuration (40_control.md R103). -/
def freeCommands : List Mnemonic := [.nop, .config, .clracc, .gfMul, .gfInv]

/-! ## The register table (10_state.md R21) -/

/-- Every slot of the window: its offset and what a host load of it returns. -/
def registerTable (s : State) : List (Nat × Word) :=
  [(0x00, 0), (0x08, s.status.word), (0x10, s.cfg.word), (0x18, s.acfg.word), (0x20, s.pos),
    (0x28, s.len), (0x30, s.present), (0x38, s.nz), (0x40, s.chk.word), (0x48, 0), (0x50, s.res0),
    (0x58, s.res1), (0x60, s.res2), (0x68, s.res3), (0x70, s.res4), (0x78, s.res5),
    (0x80, s.lanes.w0), (0x88, s.lanes.w1), (0x90, s.lanes.w2), (0x98, s.lanes.w3),
    (0xA0, 0), (0xA8, 0), (0xB0, 0), (0xB8, 0), (0xC0, 0), (0xC8, 0), (0xD0, 0), (0xD8, 0),
    (0xE0, 0), (0xE8, 0), (0xF0, 0), (0xF8, 0)]

/-- The offsets whose slots a host write changes (10_state.md R21: RW slots, STATUS and CMD). -/
def writableOffsets : List Nat := [0x00, 0x08, 0x10, 0x20, 0x28, 0x30, 0x80, 0x88, 0x90, 0x98]

/-! ## GF(256) as polynomials over GF(2) (43_gf.md R151) -/

/-- The carry-less product of two bytes, as the bits of a polynomial of degree at most 14. -/
def clmul (a b : Byte) : BitVec 15 :=
  (List.range 8).foldl (fun acc i => if b.getLsbD i then acc ^^^ (a.setWidth 15 <<< i) else acc) 0

/-- One step of the division by x^8+x^4+x^3+x^2+1: the term x^(8+i) is cancelled. -/
def cancelTerm (v : BitVec 15) (i : Nat) : BitVec 15 :=
  if v.getLsbD (8 + i) then v ^^^ (0x11D#15 <<< i) else v

/-- The remainder modulo x^8+x^4+x^3+x^2+1, from the highest term down. -/
def polyMod (v : BitVec 15) : Byte := ([6, 5, 4, 3, 2, 1, 0].foldl cancelTerm v).setWidth 8

/-- The product of R151: the carry-less product reduced by 0x11D. -/
def polyMul (a b : Byte) : Byte := polyMod (clmul a b)

/-! ## RAID 6 data with intact parity (44_raid6.md R166) -/

/-- The P and Q lanes of the snapshot are those of the true data bytes d (R161, R166). -/
def ParityIntact (s : State) (d : Nat → Byte) : Prop :=
  s.lane (s.acfg.n.toNat - 2) = xorOver (List.range (s.acfg.n.toNat - 2)) d ∧
    s.lane (s.acfg.n.toNat - 1) =
      xorOver (List.range (s.acfg.n.toNat - 2)) (fun k => gfmul (BitVec.ofNat 8 (k + 1)) (d k))

/-- Every data lane outside a list holds its true byte (R166). -/
def DataTrueExcept (s : State) (d : Nat → Byte) (erased : List Nat) : Prop :=
  ∀ k, k < s.acfg.n.toNat - 2 → k ∉ erased → s.lane k = d k

/-! ## Schedules on which nothing stops the block (log 2) -/

/-- An access the block admits (20_memory.md R51), or a turn of the engine; no reset. -/
def KeepsGoing (p : Params) : Event → Prop
  | .load addr width => width = 8 ∧ ∃ j, j < 32 ∧ addr = p.base + 8 * j
  | .store addr width _ => width = 8 ∧ ∃ j, j < 32 ∧ addr = p.base + 8 * j
  | .engine => True
  | .reset => False

end Sys2Proof.Machine
end

