-- ==== Sys2Proof/Certificates/Slice0/Obligations.lean ====
section
/-! DEFINITION. The statements for the provers. Each docstring names the rule of spec/ it formalises, or the
sections it is derived from. A command's operands are those of its snapshot (10_state.md R32). -/

open Sys2Proof Sys2Proof.Machine

/-! ## Encoding (30_encoding.md) -/

/-- Decoding the word of a command gives the command back, for every operand value (R71, R73). -/
def Obligations.DecodeInvertsEncode : Prop := ∀ i : Instr, decode (encode i) = .ok i

/-- Every legal word is the word of the command it selects: no two words mean one command (R71, R73, R75). -/
def Obligations.EncodeInvertsDecode : Prop :=
  ∀ (w : Word) (i : Instr), decode w = .ok i → encode i = w

/-- R71: a word w selects command X when (w & mask(X)) == match(X), and at most one command matches. -/
def Obligations.WordSelectsCommandByMaskAndMatch : Prop :=
  ∀ (w : Word) (m : Mnemonic),
    ((∃ i, decode w = .ok i ∧ i.mnemonic = m) ↔
      w &&& (match m.format with
        | .f0 => 0xFFFFFFFFFFFFFFFF#64
        | .ft => 0xFFFFFFFFFFFF00FF#64
        | .ftu => 0xFFFFFFFFFF0000FF#64) = m.opcode.setWidth 64)

/-- Words written out from the table of R74 and the layout of R70 decode to the commands they stand for, and
illegal ones (R75) are rejected by name. -/
def Obligations.WordsOfTheTableDecode : Prop :=
  decode 0x0000000000000000 = .ok .nop ∧
  decode 0x0000000000000001 = .ok .config ∧
  decode 0x0000000000000009 = .ok .range ∧
  decode 0x0000000000000212 = .ok (.xpEval 2) ∧
  decode 0x0000000000CA5320 = .ok (.gfMul 0x53 0xCA) ∧
  decode 0x0000000000000321 = .ok (.gfInv 0x03) ∧
  decode 0x00000000001D032A = .ok (.r6Rec2 3 29) ∧
  decode 0x0000000000000003 = .error (.unassignedOpcode 0x03) ∧
  decode 0x0000000000000100 = .error (.unusedFieldNotZero .nop) ∧
  decode 0x0000000000010321 = .error (.unusedFieldNotZero .gfInv) ∧
  decode 0x0000000001CA5320 = .error (.unusedFieldNotZero .gfMul)

/-! ## The step: engine, host and reset

The accesses, turns and resets stand in the model's schedule (log 2), and what a load returns in its field
rdata (log 3): that form is the model's own, the effect of each is the spec's. -/

/-- When the engine has the turn while a command is pending and the latched word decodes to i, the step is
exec of i at the state with the turn taken from the schedule (70_reset_and_hazards.md R234; the schedule
is the model's, log 2). -/
def Obligations.StepRunsTheDecodedCommand : Prop :=
  ∀ (s : State) (rest : List Event) (i : Instr),
    EngineHasTurn s rest → s.status.busy = true → decode s.cw = .ok i →
      step s = exec i { s with schedule := rest }

/-- R75: a pending word whose OP is unassigned, or that has a 1 bit outside the fields its format uses,
completes with ILLEGAL and no other effect (the engine's turn stands in the model's schedule, log 2). -/
def Obligations.IllegalWordCompletesWithIllegal : Prop :=
  ∀ (s : State) (rest : List Event), EngineHasTurn s rest → s.status.busy = true →
    ((∀ m : Mnemonic, s.cw.extractLsb' 0 8 ≠ m.opcode) ∨
      (∃ m : Mnemonic, s.cw.extractLsb' 0 8 = m.opcode ∧
        ∃ k, (match m.format with | .f0 => 8 | .ft => 16 | .ftu => 24) ≤ k ∧ s.cw.getLsbD k = true)) →
      step s = .next ({ s with schedule := rest }.completedWith 0x10)

/-- R214: while BUSY = 0 the block is idle and all register state survives; that an idle machine with an
empty schedule steps to itself is the model's choice (log 2). -/
def Obligations.IdleBlockKeepsItsState : Prop :=
  ∀ (s : State) (rest : List Event), EngineHasTurn s rest → s.status.busy = false →
    step s = .next { s with schedule := rest }

/-- R22: a CMD write is accepted while BUSY = 0 (latch, snapshot, BUSY, DONE and ERR written), dropped with
OVR set while BUSY = 1; a read of CMD returns 0 (the accesses stand in the model's schedule and the read's
value in rdata, log 2 and 3). -/
def Obligations.CmdWriteIssuesOrIsDropped : Prop :=
  ∀ (s : State) (w : Word) (rest : List Event),
    (s.schedule = .store s.params.base 8 w :: rest → s.status.busy = false →
      step s = .next { s with
        schedule := rest
        cw := w
        snap := { cfg := s.cfg, pos := s.pos, len := s.len, present := s.present, lanes := s.lanes }
        status := { s.status with busy := true, done := false, err := 0x00 } }) ∧
    (s.schedule = .store s.params.base 8 w :: rest → s.status.busy = true →
      step s = .next { s with schedule := rest, status := { s.status with ovr := true } }) ∧
    (s.schedule = .load s.params.base 8 :: rest →
      step s = .next { s with schedule := rest, rdata := some 0 })

/-- R23: a host write to STATUS changes only OVR, and only where the written bit 3 is 1 (the write stands in
the model's schedule, log 2). -/
def Obligations.StatusWriteClearsOnlyOvr : Prop :=
  ∀ (s : State) (v : Word) (rest : List Event),
    s.schedule = .store (s.params.base + 0x08) 8 v :: rest →
      step s = .next { s with
        schedule := rest
        status := { s.status with ovr := s.status.ovr && !v.getLsbD 3 } }

/-- The field layouts of STATUS (R23), CFG (R24) and CHK (R29) as a host load reads them. -/
def Obligations.RegisterFieldsStandAtTheirBits : Prop :=
  ∀ (st : Status) (c : Cfg) (ck : Chk),
    (st.word.getLsbD 0 = st.busy ∧ st.word.getLsbD 1 = st.done ∧ st.word.getLsbD 2 = st.cfgok ∧
      st.word.getLsbD 3 = st.ovr ∧ st.word.extractLsb' 4 4 = 0 ∧ st.word.extractLsb' 8 8 = st.err ∧
      st.word.extractLsb' 16 8 = st.lastop ∧ st.word.extractLsb' 24 40 = 0) ∧
    (c.word.extractLsb' 0 8 = c.level ∧ c.word.extractLsb' 8 8 = c.n ∧ c.word.extractLsb' 16 16 = 0 ∧
      c.word.extractLsb' 32 32 = c.s) ∧
    (ck.word.extractLsb' 0 32 = ck.miss ∧ ck.word.extractLsb' 32 8 = ck.mcnt ∧
      ck.word.getLsbD 40 = ck.evalid ∧ ck.word.extractLsb' 41 7 = 0 ∧
      ck.word.extractLsb' 48 8 = ck.epar ∧ ck.word.extractLsb' 56 8 = 0)

/-- Host loads (R21, R51, R54): every slot returns its register's value, CMD and reserved slots 0, and no
register changes; the value lies in the model's field rdata (log 2 and 3). -/
def Obligations.LoadReturnsTheSlotAndChangesNothing : Prop :=
  ∀ (s : State) (off : Nat) (v : Word) (rest : List Event),
    (off, v) ∈ registerTable s → s.schedule = .load (s.params.base + off) 8 :: rest →
      step s = .next { s with schedule := rest, rdata := some v }

/-- Host writes of the operand registers CFG, POS, LEN, PRESENT and LANEW (R24, R26, R27, R30): the fields
take the written bits, nothing else changes, and the bits that do not exist stay 0 (the write stands in the
model's schedule, log 2). -/
def Obligations.OperandWriteStoresTheLiveBits : Prop :=
  ∀ (s : State) (v : Word) (rest : List Event),
    (s.schedule = .store (s.params.base + 0x10) 8 v :: rest →
      step s = .next { s with
        schedule := rest
        cfg := { level := v.extractLsb' 0 8, n := v.extractLsb' 8 8, s := v.extractLsb' 32 32 } }) ∧
    (s.schedule = .store (s.params.base + 0x20) 8 v :: rest →
      step s = .next { s with schedule := rest, pos := v }) ∧
    (s.schedule = .store (s.params.base + 0x28) 8 v :: rest →
      step s = .next { s with schedule := rest, len := v }) ∧
    (s.schedule = .store (s.params.base + 0x30) 8 v :: rest →
      ∃ p, step s = .next { s with schedule := rest, present := p } ∧
        ∀ k, p.getLsbD k = (v.getLsbD k && decide (k < s.params.nmax))) ∧
    (∀ j, j < 4 → s.schedule = .store (s.params.base + (0x80 + 8 * j)) 8 v :: rest →
      ∃ l, step s = .next { s with schedule := rest, lanes := l } ∧
        ∀ k, k < 32 → l.lane k =
          if k / 8 = j then (if k < s.params.nmax then v.extractLsb' (8 * (k - 8 * j)) 8 else 0)
          else s.lanes.lane k)

/-- R33, R54: a host write to a read-only or reserved slot is ignored (the write stands in the model's
schedule, log 2). -/
def Obligations.ReadOnlyAndReservedWritesAreIgnored : Prop :=
  ∀ (s : State) (j : Nat) (v : Word) (rest : List Event), j < 32 → 8 * j ∉ writableOffsets →
    s.schedule = .store (s.params.base + 8 * j) 8 v :: rest →
      step s = .next { s with schedule := rest }

/-- R51: an access that has a byte in the window and is not 8 bytes wide at a multiple of 8 in 0x00 to 0xF8
is refused: there is no next state (the refusal's form is the model's, log 4). -/
def Obligations.NotAdmittedAccessIsRefused : Prop :=
  ∀ (s : State) (addr width : Nat) (v : Word) (rest : List Event),
    0 < width → s.params.base < addr + width → addr < s.params.base + 256 →
    ¬(width = 8 ∧ ∃ j, j < 32 ∧ addr = s.params.base + 8 * j) →
      (s.schedule = .load addr width :: rest → step s = .refused (.badAccess addr width)) ∧
      (s.schedule = .store addr width v :: rest → step s = .refused (.badAccess addr width))

/-- R230: reset gives every register its reset value 0, clears the latch and the snapshot and discards a
pending command, which then never completes. The model's readings: the reset stands in the schedule (log 2),
and "cleared" is the value 0 of CW and of every field of SNAP (log 8). -/
def Obligations.ResetClearsTheBlock : Prop :=
  ∀ (s : State) (rest : List Event), s.schedule = .reset :: rest →
    ∃ t, step s = .next t ∧ (∀ p ∈ registerTable t, p.2 = 0) ∧ t.status.busy = false ∧ t.cw = 0 ∧
      t.snap = Snapshot.zero ∧ t.params = s.params ∧ t.schedule = rest ∧
      (∀ rest', rest = .engine :: rest' → step t = .next { t with schedule := rest' })

/-- R230 at the model's reset state: every slot of the window reads 0, no command is pending, and the latch CW
and the snapshot SNAP are cleared; that "cleared" is the value 0 is the model's reading (log 8). -/
def Obligations.ResetStateReadsZero : Prop :=
  (∀ p ∈ registerTable State.reset, p.2 = 0) ∧ State.reset.cw = 0 ∧ State.reset.snap = Snapshot.zero ∧
    State.reset.status.busy = false

/-! ## Every command: completion, errors, frames -/

/-- R23, R200: every command completes in a next state, with BUSY 0, DONE 1, LASTOP the opcode byte of the
latched word, OVR kept, and ERR one of the codes R200 lets that command report. -/
def Obligations.EveryCommandCompletesWithOneOfItsCodes : Prop :=
  ∀ (i : Instr) (s : State), LegalCfg s.params.nmax s.acfg ∨ s.status.cfgok = false →
    ∃ t, exec i s = .next t ∧ t.status.busy = false ∧ t.status.done = true ∧
      t.status.lastop = s.cw.extractLsb' 0 8 ∧ t.status.ovr = s.status.ovr ∧
      t.status.err ∈ codesOf i.mnemonic

/-- R203: a command that reports an error has changed STATUS only, CFGOK and OVR kept, but for CONFIG, and for
XP_EVAL reporting UNRECOVERABLE. -/
def Obligations.ErrorsArePrecise : Prop :=
  ∀ (i : Instr) (s : State), ∃ t, exec i s = .next t ∧
    (t.status.err ≠ 0x00 → i ≠ .config → ¬(i.mnemonic = .xpEval ∧ t.status.err = 0x03) →
      t = s.completedWith t.status.err)

/-- No command writes an operand register, the latch, the snapshot or what is not the block's (R30, R32); only
CONFIG writes ACFG and CFGOK (R25), only XP_ACC, CLRACC and CONFIG write NZ (R28), only XP_EVAL, CLRACC and
CONFIG write CHK (R29), and only the commands whose rules name them write RES0 to RES5 (R31). -/
def Obligations.CommandsWriteOnlyTheirRegisters : Prop :=
  ∀ (i : Instr) (s : State), ∃ t, exec i s = .next t ∧
    (t.params = s.params ∧ t.cfg = s.cfg ∧ t.pos = s.pos ∧ t.len = s.len ∧ t.present = s.present ∧
      t.lanes = s.lanes ∧ t.cw = s.cw ∧ t.snap = s.snap ∧ t.schedule = s.schedule ∧ t.rdata = s.rdata) ∧
    (i ≠ .config → t.acfg = s.acfg ∧ t.status.cfgok = s.status.cfgok) ∧
    (i.mnemonic ∉ [Mnemonic.xpAcc, .clracc, .config] → t.nz = s.nz) ∧
    (i.mnemonic ∉ [Mnemonic.xpEval, .clracc, .config] → t.chk = s.chk) ∧
    (i.mnemonic ∈ [Mnemonic.nop, .config, .clracc, .alignchk, .xpAcc, .xpEval] → t.res0 = s.res0) ∧
    (i.mnemonic ∉ [Mnemonic.map, .range, .xpRec, .r6Pq, .r6Rec2, .r6Rec2Src, .r6Read] →
      t.res1 = s.res1) ∧
    (i.mnemonic ∉ [Mnemonic.map, .range, .r6Read] → t.res2 = s.res2) ∧
    (i.mnemonic ∉ [Mnemonic.map, .range] → t.res3 = s.res3) ∧
    (i ≠ .map → t.res4 = s.res4 ∧ t.res5 = s.res5)

/-- R32, R56 (b), R237: host writes after acceptance to any slot but CMD and STATUS are not seen by the running
command: the two orders of write and completion give the same state. -/
def Obligations.RunningCommandIgnoresLaterWrites : Prop :=
  ∀ (i : Instr) (s : State) (off : Nat) (v : Word), off ≠ 0x00 → off ≠ 0x08 →
    ∃ t, exec i s = .next t ∧ exec i (writeSlot off v s) = .next (writeSlot off v t)

/-- R234: every accepted command completes after finitely many turns of the schedule, whatever admitted
accesses the host makes meanwhile: within one step more than the schedule is long, a step is the
completion of exactly the latched word with its own snapshot. The schedule is the model's choice, and so is
the bound: it rests on an empty schedule giving the engine the turn (log 2). -/
def Obligations.PendingCommandCompletes : Prop :=
  ∀ s : State, s.status.busy = true → (∀ e ∈ s.schedule, KeepsGoing s.params e) →
    ∃ k, k ≤ s.schedule.length ∧ ∃ m t, core.run k s = .next m ∧ m.status.busy = true ∧
      m.cw = s.cw ∧ m.snap = s.snap ∧ step m = .next t ∧ t.status.busy = false ∧
      t.status.done = true ∧ t.status.lastop = s.cw.extractLsb' 0 8

/-- R103: every command but NOP, CONFIG, CLRACC, GF_MUL and GF_INV reports NOCFG while CFGOK = 0. -/
def Obligations.UnconfiguredCommandsReportNocfg : Prop :=
  ∀ (i : Instr) (s : State), i.mnemonic ∉ freeCommands → s.status.cfgok = false →
    exec i s = .next (s.completedWith 0x11)

/-- R74, R201: with CFGOK = 1, an XP_ command at another level than RAID 5, an R6_ command at another level
than RAID 6 and RANGE at RAID 1 report LEVEL, whatever their operands are. -/
def Obligations.WrongLevelReportsLevel : Prop :=
  ∀ (i : Instr) (s : State), s.status.cfgok = true →
    (i.mnemonic ∈ xpCommands ∧ s.acfg.level ≠ 0x05 ∨ i.mnemonic ∈ r6Commands ∧ s.acfg.level ≠ 0x06 ∨
      i = .range ∧ s.acfg.level = 0x01) →
      exec i s = .next (s.completedWith 0x12)

/-- The OPERAND checks of R132, R133, R162, R163, R164 and R165: a disk or lane index out of range, or
t = o, reports OPERAND and changes nothing else. -/
def Obligations.BadIndexReportsOperand : Prop :=
  ∀ (s : State) (t o : Byte),
    (ActiveAt s 0x05 → s.acfg.n.toNat ≤ t.toNat →
      exec (.xpEnc t) s = .next (s.completedWith 0x13) ∧
      exec (.xpEval t) s = .next (s.completedWith 0x13)) ∧
    (ActiveAt s 0x06 → s.acfg.n.toNat - 2 ≤ t.toNat →
      exec (.r6Rec1 t) s = .next (s.completedWith 0x13) ∧
      exec (.r6Read t) s = .next (s.completedWith 0x13)) ∧
    (ActiveAt s 0x06 → (s.acfg.n.toNat - 2 ≤ t.toNat ∨ s.acfg.n.toNat - 2 ≤ o.toNat ∨ t = o) →
      exec (.r6Rec2 t o) s = .next (s.completedWith 0x13) ∧
      exec (.r6Rec2Src t o) s = .next (s.completedWith 0x13))

/-! ## The invariant -/

/-- The invariant holds right after reset (R230; SNAP cleared is read as 0, log 8). -/
def Obligations.InvariantHoldsAtReset : Prop := StateInvariant State.reset

/-- Every step, of whichever agent, keeps the invariant (R22 to R33, R101, R131, R132, R200, R230). -/
def Obligations.EveryStepKeepsTheInvariant : Prop :=
  ∀ s t : State, StateInvariant s → step s = .next t → StateInvariant t

/-! ## Control commands (40_control.md) -/

/-- R100: NOP only completes; it runs unconfigured and does not clear OVR. -/
def Obligations.NopOnlyCompletes : Prop := ∀ s : State, exec .nop s = .next (s.completedWith 0x00)

/-- R101: CONFIG makes a legal SNAP.CFG the active configuration, with S = 0 for RAID 1, and otherwise
unconfigures the block and reports CONFIG; it clears NZ and CHK either way. -/
def Obligations.ConfigValidatesAndActivates : Prop :=
  ∀ s : State,
    (LegalCfg s.params.nmax s.snap.cfg →
      exec .config s = .next { s with
        nz := 0
        chk := { miss := 0, mcnt := 0, evalid := false, epar := 0 }
        acfg := { level := s.snap.cfg.level, n := s.snap.cfg.n
                  s := if s.snap.cfg.level = 0x01 then 0 else s.snap.cfg.s }
        status := { s.doneStatus 0x00 with cfgok := true } }) ∧
    (¬LegalCfg s.params.nmax s.snap.cfg →
      exec .config s = .next { s with
        nz := 0
        chk := { miss := 0, mcnt := 0, evalid := false, epar := 0 }
        acfg := { level := 0, n := 0, s := 0 }
        status := { s.doneStatus 0x01 with cfgok := false } })

/-- R102: CLRACC clears NZ and CHK, at any level and unconfigured too. -/
def Obligations.ClraccClearsTheChecker : Prop :=
  ∀ s : State, exec .clracc s = .next { s with
    nz := 0
    chk := { miss := 0, mcnt := 0, evalid := false, epar := 0 }
    status := s.doneStatus 0x00 }

/-! ## Address mapper (41_mapper.md) -/

/-- R112: MAP at RAID 0. -/
def Obligations.MapTranslatesAtRaid0 : Prop :=
  ∀ s : State, ActiveAt s 0x00 →
    exec .map s = .next { s with
      status := s.doneStatus 0x00
      res0 := BitVec.ofNat 64 (s.snap.pos.toNat / s.acfg.s.toNat)
      res1 := BitVec.ofNat 64 (s.snap.pos.toNat / s.acfg.s.toNat % s.acfg.n.toNat)
      res2 := BitVec.ofNat 64 (s.snap.pos.toNat / s.acfg.s.toNat / s.acfg.n.toNat * s.acfg.s.toNat +
        s.snap.pos.toNat % s.acfg.s.toNat)
      res3 := BitVec.allOnes 64
      res4 := BitVec.allOnes 64
      res5 := BitVec.ofNat 64 (s.snap.pos.toNat % s.acfg.s.toNat) }

/-- R113: MAP at RAID 1. -/
def Obligations.MapTranslatesAtRaid1 : Prop :=
  ∀ s : State, ActiveAt s 0x01 →
    exec .map s = .next { s with
      status := s.doneStatus 0x00
      res0 := BitVec.allOnes 64
      res1 := 0
      res2 := s.snap.pos
      res3 := BitVec.allOnes 64
      res4 := BitVec.allOnes 64
      res5 := BitVec.allOnes 64 }

/-- R114: MAP at RAID 10. -/
def Obligations.MapTranslatesAtRaid10 : Prop :=
  ∀ (s : State) (h sn pr : Nat), ActiveAt s 0x0A → h = s.acfg.n.toNat / 2 →
    sn = s.snap.pos.toNat / s.acfg.s.toNat → pr = sn % h →
    exec .map s = .next { s with
      status := s.doneStatus 0x00
      res0 := BitVec.ofNat 64 sn
      res1 := BitVec.ofNat 64 (2 * pr)
      res2 := BitVec.ofNat 64 (sn / h * s.acfg.s.toNat + s.snap.pos.toNat % s.acfg.s.toNat)
      res3 := BitVec.ofNat 64 (2 * pr + 1)
      res4 := BitVec.allOnes 64
      res5 := BitVec.ofNat 64 (s.snap.pos.toNat % s.acfg.s.toNat) }

/-- R115: MAP at RAID 5, for both values of R5_DATA_ORDER. The position is written as stripe st, data block k
and byte b, which determine it: POS = (st*(N-1) + k)*S + b. -/
def Obligations.MapTranslatesAtRaid5 : Prop :=
  ∀ (s : State) (n sz st k b : Nat), ActiveAt s 0x05 → n = s.acfg.n.toNat → sz = s.acfg.s.toNat →
    k < n - 1 → b < sz → s.snap.pos.toNat = (st * (n - 1) + k) * sz + b →
    exec .map s = .next { s with
      status := s.doneStatus 0x00
      res0 := BitVec.ofNat 64 st
      res1 := BitVec.ofNat 64 (match s.params.r5DataOrder with
        | .asc => if k < st % n then k else k + 1
        | .sym => (st % n + 1 + k) % n)
      res2 := BitVec.ofNat 64 (st * sz + b)
      res3 := BitVec.ofNat 64 (st % n)
      res4 := BitVec.allOnes 64
      res5 := BitVec.ofNat 64 k }

/-- R116: MAP at RAID 6. The position is written as stripe st, data block k and byte b, which determine it:
POS = (st*(N-2) + k)*S + b. -/
def Obligations.MapTranslatesAtRaid6 : Prop :=
  ∀ (s : State) (n sz st k b : Nat), ActiveAt s 0x06 → n = s.acfg.n.toNat → sz = s.acfg.s.toNat →
    k < n - 2 → b < sz → s.snap.pos.toNat = (st * (n - 2) + k) * sz + b →
    exec .map s = .next { s with
      status := s.doneStatus 0x00
      res0 := BitVec.ofNat 64 st
      res1 := BitVec.ofNat 64 k
      res2 := BitVec.ofNat 64 (st * sz + b)
      res3 := BitVec.ofNat 64 (n - 2)
      res4 := BitVec.ofNat 64 (n - 1)
      res5 := BitVec.ofNat 64 k }

/-- R119: each map is inverted by the formula the rule gives for its level, so it is one-to-one. -/
def Obligations.MapIsInvertible : Prop :=
  ∀ (order : R5Order) (n sz pos : Nat), 1 ≤ sz →
    (2 ≤ n → ((mapRaid0 n sz pos).offset / sz * n + (mapRaid0 n sz pos).disk) * sz +
      (mapRaid0 n sz pos).offset % sz = pos) ∧
    (mapRaid1 pos).offset = pos ∧
    (4 ≤ n → n % 2 = 0 →
      ((mapRaid10 n sz pos).offset / sz * (n / 2) + (mapRaid10 n sz pos).disk / 2) * sz +
        (mapRaid10 n sz pos).offset % sz = pos) ∧
    (3 ≤ n → ∀ d st p k, d = (mapRaid5 order n sz pos).disk → st = (mapRaid5 order n sz pos).offset / sz →
      p = st % n →
      k = (match order with
        | .asc => if d < p then d else d - 1
        | .sym => (d + n - p - 1) % n) →
      st * (n - 1) * sz + k * sz + (mapRaid5 order n sz pos).offset % sz = pos) ∧
    (4 ≤ n → (mapRaid6 n sz pos).offset / sz * (n - 2) * sz + (mapRaid6 n sz pos).disk * sz +
      (mapRaid6 n sz pos).offset % sz = pos)

/-- R110: no result of MAP exceeds 64 bits: offsets, stripe numbers and blocks are at most POS, and every disk
named is a disk of the array. -/
def Obligations.MapResultsAreExact : Prop :=
  ∀ (l : Level) (order : R5Order) (nmax : Nat) (c : Cfg) (pos : Nat) (m : Mapping),
    LegalCfg nmax c → c.level = l.code → m = mapAt l order c.n.toNat c.s.toNat pos →
    m.offset ≤ pos ∧ (∀ x ∈ m.stripe, x ≤ pos) ∧ (∀ x ∈ m.inner, x ≤ pos) ∧
      m.disk < c.n.toNat ∧ (∀ x ∈ m.second, x < c.n.toNat ∧ x ≠ m.disk) ∧
      (∀ x ∈ m.third, x < c.n.toNat ∧ x ≠ m.disk)

/-- R115, R120: in a RAID 5 stripe the parity disk p holds no data block, and every other disk holds exactly
one of the blocks 0 to N-2. -/
def Obligations.Raid5StripeUsesEachDiskOnce : Prop :=
  ∀ (order : R5Order) (n p : Nat), 3 ≤ n → p < n →
    (∀ k, k < n - 1 → dataDisk order n k p < n ∧ dataDisk order n k p ≠ p) ∧
    (∀ d, d < n → d ≠ p → ∃ k, (k < n - 1 ∧ dataDisk order n k p = d) ∧
      ∀ k', k' < n - 1 → dataDisk order n k' p = d → k' = k)

/-- R117: RANGE with stripe unit G writes the first and last stripe touched, their count and G; LEN = 0 touches
no stripe; a range past 2^64-1 reports OPERAND. -/
def Obligations.RangeGroupsIntoStripes : Prop :=
  ∀ (s : State) (g pos len : Nat), s.status.cfgok = true → pos = s.snap.pos.toNat →
    len = s.snap.len.toNat →
    ((s.acfg.level = 0x00 ∨ s.acfg.level = 0x0A) ∧ g = s.acfg.s.toNat ∨
      s.acfg.level = 0x05 ∧ g = (s.acfg.n.toNat - 1) * s.acfg.s.toNat ∨
      s.acfg.level = 0x06 ∧ g = (s.acfg.n.toNat - 2) * s.acfg.s.toNat) →
    (len = 0 → exec .range s = .next { s with
      status := s.doneStatus 0x00
      res0 := BitVec.ofNat 64 (pos / g)
      res1 := BitVec.ofNat 64 (pos / g)
      res2 := 0
      res3 := BitVec.ofNat 64 g }) ∧
    (1 ≤ len → pos + len ≤ 2 ^ 64 → exec .range s = .next { s with
      status := s.doneStatus 0x00
      res0 := BitVec.ofNat 64 (pos / g)
      res1 := BitVec.ofNat 64 ((pos + len - 1) / g)
      res2 := BitVec.ofNat 64 ((pos + len - 1) / g - pos / g + 1)
      res3 := BitVec.ofNat 64 g }) ∧
    (2 ^ 64 < pos + len → 1 ≤ len → exec .range s = .next (s.completedWith 0x13))

/-- R117, and R110 for RANGE: with an accepted configuration of a level that has stripes, a range that ends at
2^64-1 at most (LEN = 0 included) makes RANGE complete without error. RES2 is the number of stripes the range
touches, that is of values (POS+i)/G for i below LEN; RES0, RES1 and RES3 are the first stripe, the last
stripe and G; as numbers, so none of the four exceeds 64 bits. -/
def Obligations.RangeCountsTheStripesTouched : Prop :=
  ∀ (s : State) (g pos len : Nat), s.status.cfgok = true → LegalCfg s.params.nmax s.acfg →
    pos = s.snap.pos.toNat → len = s.snap.len.toNat →
    ((s.acfg.level = 0x00 ∨ s.acfg.level = 0x0A) ∧ g = s.acfg.s.toNat ∨
      s.acfg.level = 0x05 ∧ g = (s.acfg.n.toNat - 1) * s.acfg.s.toNat ∨
      s.acfg.level = 0x06 ∧ g = (s.acfg.n.toNat - 2) * s.acfg.s.toNat) →
    pos + len ≤ 2 ^ 64 →
    ∃ t, exec .range s = .next t ∧ t.status.err = 0x00 ∧
      t.res2.toNat = ((Finset.range len).image (fun i => (pos + i) / g)).card ∧
      t.res0.toNat = pos / g ∧ t.res1.toNat = (if len = 0 then pos else pos + len - 1) / g ∧
      t.res3.toNat = g

/-- R118: ALIGNCHK raises ALIGNMENT exactly at RAID 5 with POS off the stripe data size, and changes no
register but STATUS. -/
def Obligations.AlignchkChecksRaid5Writes : Prop :=
  ∀ s : State, s.status.cfgok = true →
    (s.acfg.level = 0x05 → ¬((s.acfg.n.toNat - 1) * s.acfg.s.toNat ∣ s.snap.pos.toNat) →
      exec .alignchk s = .next (s.completedWith 0x02)) ∧
    (s.acfg.level = 0x05 → (s.acfg.n.toNat - 1) * s.acfg.s.toNat ∣ s.snap.pos.toNat →
      exec .alignchk s = .next (s.completedWith 0x00)) ∧
    (s.acfg.level ≠ 0x05 → exec .alignchk s = .next (s.completedWith 0x00))

/-! ## XOR parity (42_xor_parity.md) -/

/-- R11: XOR_{k in K} e(k) has bit i set exactly when an odd number of the e(k) have it. -/
def Obligations.XorOverCountsParity : Prop :=
  ∀ (ks : List Nat) (e : Nat → Byte) (i : Nat),
    (xorOver ks e).getLsbD i = decide ((ks.filter (fun k => (e k).getLsbD i)).length % 2 = 1)

/-- R133: XP_ENC p writes the XOR of the lanes of all disks but p to RES0. -/
def Obligations.XpEncWritesTheParity : Prop :=
  ∀ (s : State) (p : Byte), ActiveAt s 0x05 → p.toNat < s.acfg.n.toNat →
    exec (.xpEnc p) s = .next { s with
      status := s.doneStatus 0x00
      res0 := (xorOver ((List.range s.acfg.n.toNat).filter (· ≠ p.toNat)) s.lane).setWidth 64 }

/-- R131: XP_ACC sets the NZ bits of the disks below N whose lane is not 0 and changes no other bit. -/
def Obligations.XpAccAccumulatesNonZeroLanes : Prop :=
  ∀ s : State, ActiveAt s 0x05 →
    ∃ nz', exec .xpAcc s = .next { s with status := s.doneStatus 0x00, nz := nz' } ∧
      ∀ k, k < 64 →
        nz'.getLsbD k = (s.nz.getLsbD k || (decide (k < s.acfg.n.toNat) && decide (s.lane k ≠ 0)))

/-- R132: XP_EVAL p writes CHK with the set of missing data disks and their number, and reports UNRECOVERABLE
when there are two or more. -/
def Obligations.XpEvalJudgesTheDataBlocks : Prop :=
  ∀ (s : State) (p : Byte) (missing : Nat → Bool) (cnt : Nat), ActiveAt s 0x05 →
    p.toNat < s.acfg.n.toNat →
    (∀ k, missing k = (decide (k ≠ p.toNat) && (!s.snap.present.getLsbD k || !s.nz.getLsbD k))) →
    cnt = ((Finset.range s.acfg.n.toNat).filter (fun k => missing k = true)).card →
    ∃ miss', exec (.xpEval p) s = .next { s with
        status := s.doneStatus (if 2 ≤ cnt then 0x03 else 0x00)
        chk := { miss := miss', mcnt := BitVec.ofNat 8 cnt, evalid := true, epar := p } } ∧
      ∀ k, k < 32 → miss'.getLsbD k = (decide (k < s.acfg.n.toNat) && missing k)

/-- R134: XP_REC, in the order of its tests: SEQUENCE, UNRECOVERABLE, nothing to rebuild, rebuild disk m. -/
def Obligations.XpRecRebuildsOrReports : Prop :=
  ∀ s : State, ActiveAt s 0x05 →
    (s.chk.evalid = false → exec .xpRec s = .next (s.completedWith 0x14)) ∧
    (s.chk.evalid = true → 2 ≤ s.chk.mcnt.toNat → exec .xpRec s = .next (s.completedWith 0x03)) ∧
    (s.chk.evalid = true → s.chk.mcnt = 0 → exec .xpRec s = .next { s with
      status := s.doneStatus 0x00
      res0 := 0
      res1 := BitVec.allOnes 64 }) ∧
    (∀ m, m < 32 → s.chk.evalid = true → s.chk.mcnt = 1 → s.chk.miss = BitVec.twoPow 32 m →
      exec .xpRec s = .next { s with
        status := s.doneStatus 0x00
        res0 := (xorOver ((List.range s.acfg.n.toNat).filter (· ≠ m)) s.lane).setWidth 64
        res1 := BitVec.ofNat 64 m })

/-- R135 (a) and (b) of the XOR over disks: with lane p the parity of the others the XOR over all disks is 0,
and then the XOR over all but m is the byte of m. -/
def Obligations.ParityLawsHold : Prop :=
  ∀ (n p m : Nat) (e : Nat → Byte), p < n → m < n →
    e p = xorOver ((List.range n).filter (· ≠ p)) e →
      xorOver (List.range n) e = 0 ∧ xorOver ((List.range n).filter (· ≠ m)) e = e m

/-- The RAID 5 check from its judgement on (R130 steps 4 and 5, R132, R134, R135): every data block but m is
present and not all zero, m is not. Then XP_EVAL p succeeds. Every XP_REC after it, accepted with a column of
its own, finds CFGOK, ACFG and CHK as XP_EVAL left them; where its column holds the true bytes d, with d p
their parity, except at m, it returns the true byte of disk m. -/
def Obligations.Raid5CheckRebuildsTheLostByte : Prop :=
  ∀ (s : State) (p : Byte) (m : Nat), ActiveAt s 0x05 → s.acfg.n.toNat ≤ 32 →
    p.toNat < s.acfg.n.toNat → m < s.acfg.n.toNat → m ≠ p.toNat →
    (∀ k, k < s.acfg.n.toNat → k ≠ p.toNat →
      ((s.snap.present.getLsbD k = true ∧ s.nz.getLsbD k = true) ↔ k ≠ m)) →
    ∃ t, exec (.xpEval p) s = .next t ∧ t.status.err = 0x00 ∧
      ∀ (v : State) (d : Nat → Byte), v.status.cfgok = t.status.cfgok → v.acfg = t.acfg → v.chk = t.chk →
        d p.toNat = xorOver ((List.range s.acfg.n.toNat).filter (· ≠ p.toNat)) d →
        (∀ k, k < s.acfg.n.toNat → k ≠ m → v.lane k = d k) →
        ∃ u, exec .xpRec v = .next u ∧ u.status.err = 0x00 ∧ u.res0 = (d m).setWidth 64 ∧
          u.res1 = BitVec.ofNat 64 m

/-! ## GF(256) (43_gf.md) -/

/-- R151: the shift-and-XOR loop computes the carry-less product reduced modulo x^8+x^4+x^3+x^2+1. -/
def Obligations.GfmulIsPolynomialProduct : Prop := ∀ a b : Byte, gfmul a b = polyMul a b

/-- R155: the field laws. -/
def Obligations.FieldLawsHold : Prop :=
  (∀ a b : Byte, gfmul a b = gfmul b a) ∧
  (∀ a b c : Byte, gfmul (gfmul a b) c = gfmul a (gfmul b c)) ∧
  (∀ a b c : Byte, gfmul a (b ^^^ c) = gfmul a b ^^^ gfmul a c) ∧
  (∀ a : Byte, gfmul a 1 = a) ∧
  (∀ a : Byte, gfmul a 0 = 0) ∧
  (∀ a b : Byte, gfmul a b = 0 → a = 0 ∨ b = 0) ∧
  (∀ a : Byte, a ≠ 0 → gfmul a (gfinv a) = 1) ∧
  (∀ a : Byte, a ≠ 0 → gfinv (gfinv a) = a) ∧
  (gfmul 2)^[255] 1 = 1 ∧ (∀ k, 0 < k → k < 255 → (gfmul 2)^[k] 1 ≠ 1)

/-- R153: GF_MUL writes the field product to RES0, at any configuration; the product is the polynomial one. -/
def Obligations.GfMulWritesTheProduct : Prop :=
  ∀ (s : State) (a b : Byte), exec (.gfMul a b) s = .next { s with
    status := s.doneStatus 0x00
    res0 := (polyMul a b).setWidth 64 }

/-- R154, R152: GF_INV writes the one x with gfmul(a, x) = 1, which exists for every a but 0; GF_INV 0 reports
DOMAIN and leaves RES0. -/
def Obligations.GfInvWritesTheInverse : Prop :=
  (∀ a : Byte, a ≠ 0 → ∃ x : Byte, x ≠ 0 ∧ gfmul a x = 1) ∧
  (∀ (s : State) (a x : Byte), gfmul a x = 1 →
    exec (.gfInv a) s = .next { s with status := s.doneStatus 0x00, res0 := x.setWidth 64 }) ∧
  (∀ s : State, exec (.gfInv 0) s = .next (s.completedWith 0x15))

/-! ## RAID 6 (44_raid6.md) -/

/-- R161: R6_PQ writes P and Q of the data lanes 0 to N-3 to RES0 and RES1. -/
def Obligations.R6PqEncodes : Prop :=
  ∀ s : State, ActiveAt s 0x06 → exec .r6Pq s = .next { s with
    status := s.doneStatus 0x00
    res0 := (xorOver (List.range (s.acfg.n.toNat - 2)) s.lane).setWidth 64
    res1 := (xorOver (List.range (s.acfg.n.toNat - 2))
      (fun k => gfmul (BitVec.ofNat 8 (k + 1)) (s.lane k))).setWidth 64 }

/-- R162: R6_REC1 t writes P xor the XOR of the other data lanes to RES0. -/
def Obligations.R6Rec1RebuildsFromP : Prop :=
  ∀ (s : State) (t : Byte), ActiveAt s 0x06 → t.toNat < s.acfg.n.toNat - 2 →
    exec (.r6Rec1 t) s = .next { s with
      status := s.doneStatus 0x00
      res0 := (s.lane (s.acfg.n.toNat - 2) ^^^
        xorOver ((List.range (s.acfg.n.toNat - 2)).filter (· ≠ t.toNat)) s.lane).setWidth 64 }

/-- R163: R6_REC2 t, o writes the two bytes x and y that satisfy the two equations of the rule with the
surviving lanes: x xor y = b and g(t)*x xor g(o)*y = c; they are the only two bytes that do. -/
def Obligations.R6Rec2SolvesBothEquations : Prop :=
  ∀ (s : State) (t o : Byte) (x y : Byte), ActiveAt s 0x06 → t.toNat < s.acfg.n.toNat - 2 →
    o.toNat < s.acfg.n.toNat - 2 → t ≠ o →
    x ^^^ y = s.lane (s.acfg.n.toNat - 2) ^^^
      xorOver ((List.range (s.acfg.n.toNat - 2)).filter (fun k => k ≠ t.toNat ∧ k ≠ o.toNat)) s.lane →
    gfmul (t + 1) x ^^^ gfmul (o + 1) y = s.lane (s.acfg.n.toNat - 1) ^^^
      xorOver ((List.range (s.acfg.n.toNat - 2)).filter (fun k => k ≠ t.toNat ∧ k ≠ o.toNat))
        (fun k => gfmul (BitVec.ofNat 8 (k + 1)) (s.lane k)) →
    exec (.r6Rec2 t o) s = .next { s with
      status := s.doneStatus 0x00
      res0 := x.setWidth 64
      res1 := y.setWidth 64 }

/-- R166: with P and Q those of the true bytes d and the surviving lanes true, R6_REC2 t, o returns the true
bytes of both erased lanes. -/
def Obligations.R6Rec2RecoversBothBytes : Prop :=
  ∀ (s : State) (t o : Byte) (d : Nat → Byte), ActiveAt s 0x06 → t.toNat < s.acfg.n.toNat - 2 →
    o.toNat < s.acfg.n.toNat - 2 → t ≠ o → ParityIntact s d → DataTrueExcept s d [t.toNat, o.toNat] →
    exec (.r6Rec2 t o) s = .next { s with
      status := s.doneStatus 0x00
      res0 := (d t.toNat).setWidth 64
      res1 := (d o.toNat).setWidth 64 }

/-- R164: R6_REC2_SRC t, o writes r = c*gfinv(A) xor b, the source's literal formula, to RES0 and RES1. -/
def Obligations.R6Rec2SrcWritesTheSourceFormula : Prop :=
  ∀ (s : State) (t o b c : Byte), ActiveAt s 0x06 → t.toNat < s.acfg.n.toNat - 2 →
    o.toNat < s.acfg.n.toNat - 2 → t ≠ o →
    b = s.lane (s.acfg.n.toNat - 2) ^^^
      xorOver ((List.range (s.acfg.n.toNat - 2)).filter (fun k => k ≠ t.toNat ∧ k ≠ o.toNat)) s.lane →
    c = s.lane (s.acfg.n.toNat - 1) ^^^
      xorOver ((List.range (s.acfg.n.toNat - 2)).filter (fun k => k ≠ t.toNat ∧ k ≠ o.toNat))
        (fun k => gfmul (BitVec.ofNat 8 (k + 1)) (s.lane k)) →
    exec (.r6Rec2Src t o) s = .next { s with
      status := s.doneStatus 0x00
      res0 := (gfmul c (gfinv ((t + 1) ^^^ (o + 1))) ^^^ b).setWidth 64
      res1 := (gfmul c (gfinv ((t + 1) ^^^ (o + 1))) ^^^ b).setWidth 64 }

/-- R164: with intact parity the source's formula gives the true byte of lane t exactly when the true bytes of
t and o are equal. -/
def Obligations.SourceFormulaIsRightOnlyForEqualBytes : Prop :=
  ∀ (s : State) (t o : Byte) (d : Nat → Byte), ActiveAt s 0x06 → t.toNat < s.acfg.n.toNat - 2 →
    o.toNat < s.acfg.n.toNat - 2 → t ≠ o → ParityIntact s d → DataTrueExcept s d [t.toNat, o.toNat] →
    ∃ u, exec (.r6Rec2Src t o) s = .next u ∧ u.res1 = u.res0 ∧
      (u.res0 = (d t.toNat).setWidth 64 ↔ d t.toNat = d o.toNat)

/-- R165: the paths of R6_READ t by the set Z of zero data lanes: direct, rebuild from P, the solve of
R6_REC2 with the other zero lane o, UNRECOVERABLE. -/
def Obligations.R6ReadTakesTheRightPath : Prop :=
  ∀ (s : State) (t : Byte) (z : Finset Nat), ActiveAt s 0x06 → t.toNat < s.acfg.n.toNat - 2 →
    z = (Finset.range (s.acfg.n.toNat - 2)).filter (fun k => s.lane k = 0) →
    (s.lane t.toNat ≠ 0 → exec (.r6Read t) s = .next { s with
      status := s.doneStatus 0x00
      res0 := (s.lane t.toNat).setWidth 64
      res1 := 0
      res2 := BitVec.ofNat 64 z.card }) ∧
    (s.lane t.toNat = 0 → z.card = 1 →
      ∃ u, exec (.r6Rec1 t) s = .next u ∧
        exec (.r6Read t) s = .next { u with res1 := 1, res2 := 1 }) ∧
    (∀ o : Byte, s.lane t.toNat = 0 → z = {t.toNat, o.toNat} → t ≠ o →
      ∃ u, exec (.r6Rec2 t o) s = .next u ∧
        exec (.r6Read t) s = .next { u with res1 := 2, res2 := 2 }) ∧
    (s.lane t.toNat = 0 → 3 ≤ z.card → exec (.r6Read t) s = .next (s.completedWith 0x03))

/-- The RAID 6 read end to end (R165, R166, R167 (a), (b)): with P and Q intact and at most two data lanes
reading 0, each other one true, R6_READ t returns the true byte, whether the zeros are erasures or data. -/
def Obligations.R6ReadReturnsTheTrueByte : Prop :=
  ∀ (s : State) (t : Byte) (d : Nat → Byte), ActiveAt s 0x06 → t.toNat < s.acfg.n.toNat - 2 →
    ParityIntact s d → (∀ k, k < s.acfg.n.toNat - 2 → s.lane k ≠ 0 → s.lane k = d k) →
    ((Finset.range (s.acfg.n.toNat - 2)).filter (fun k => s.lane k = 0)).card ≤ 2 →
    ∃ u, exec (.r6Read t) s = .next u ∧ u.status.err = 0x00 ∧ u.res0 = (d t.toNat).setWidth 64
end

