-- ==== Sys2Proof/Laws/State.lean ====
section
/-! SUPPORT. One lemma per field per named update of the state: each holds by unfolding once, so that no later
proof unfolds a record update. -/

namespace Sys2Proof.Machine

/-! ## `State.complete` -/

@[simp] theorem State.complete_params (s : State) (e : ErrCode) : (s.complete e).params = s.params := rfl

@[simp] theorem State.complete_status (s : State) (e : ErrCode) :
    (s.complete e).status = s.status.completed e (opField s.cw) := rfl

@[simp] theorem State.complete_cfg (s : State) (e : ErrCode) : (s.complete e).cfg = s.cfg := rfl

@[simp] theorem State.complete_acfg (s : State) (e : ErrCode) : (s.complete e).acfg = s.acfg := rfl

@[simp] theorem State.complete_pos (s : State) (e : ErrCode) : (s.complete e).pos = s.pos := rfl

@[simp] theorem State.complete_len (s : State) (e : ErrCode) : (s.complete e).len = s.len := rfl

@[simp] theorem State.complete_present (s : State) (e : ErrCode) :
    (s.complete e).present = s.present := rfl

@[simp] theorem State.complete_nz (s : State) (e : ErrCode) : (s.complete e).nz = s.nz := rfl

@[simp] theorem State.complete_chk (s : State) (e : ErrCode) : (s.complete e).chk = s.chk := rfl

@[simp] theorem State.complete_res0 (s : State) (e : ErrCode) : (s.complete e).res0 = s.res0 := rfl

@[simp] theorem State.complete_res1 (s : State) (e : ErrCode) : (s.complete e).res1 = s.res1 := rfl

@[simp] theorem State.complete_res2 (s : State) (e : ErrCode) : (s.complete e).res2 = s.res2 := rfl

@[simp] theorem State.complete_res3 (s : State) (e : ErrCode) : (s.complete e).res3 = s.res3 := rfl

@[simp] theorem State.complete_res4 (s : State) (e : ErrCode) : (s.complete e).res4 = s.res4 := rfl

@[simp] theorem State.complete_res5 (s : State) (e : ErrCode) : (s.complete e).res5 = s.res5 := rfl

@[simp] theorem State.complete_lanes (s : State) (e : ErrCode) : (s.complete e).lanes = s.lanes := rfl

@[simp] theorem State.complete_cw (s : State) (e : ErrCode) : (s.complete e).cw = s.cw := rfl

@[simp] theorem State.complete_snap (s : State) (e : ErrCode) : (s.complete e).snap = s.snap := rfl

@[simp] theorem State.complete_schedule (s : State) (e : ErrCode) :
    (s.complete e).schedule = s.schedule := rfl

@[simp] theorem State.complete_rdata (s : State) (e : ErrCode) : (s.complete e).rdata = s.rdata := rfl

/-! ## `State.completedWith` -/

@[simp] theorem State.completedWith_params (s : State) (c : Byte) :
    (s.completedWith c).params = s.params := rfl

@[simp] theorem State.completedWith_status (s : State) (c : Byte) :
    (s.completedWith c).status = s.doneStatus c := rfl

@[simp] theorem State.completedWith_cfg (s : State) (c : Byte) : (s.completedWith c).cfg = s.cfg := rfl

@[simp] theorem State.completedWith_acfg (s : State) (c : Byte) :
    (s.completedWith c).acfg = s.acfg := rfl

@[simp] theorem State.completedWith_pos (s : State) (c : Byte) : (s.completedWith c).pos = s.pos := rfl

@[simp] theorem State.completedWith_len (s : State) (c : Byte) : (s.completedWith c).len = s.len := rfl

@[simp] theorem State.completedWith_present (s : State) (c : Byte) :
    (s.completedWith c).present = s.present := rfl

@[simp] theorem State.completedWith_nz (s : State) (c : Byte) : (s.completedWith c).nz = s.nz := rfl

@[simp] theorem State.completedWith_chk (s : State) (c : Byte) : (s.completedWith c).chk = s.chk := rfl

@[simp] theorem State.completedWith_res0 (s : State) (c : Byte) :
    (s.completedWith c).res0 = s.res0 := rfl

@[simp] theorem State.completedWith_res1 (s : State) (c : Byte) :
    (s.completedWith c).res1 = s.res1 := rfl

@[simp] theorem State.completedWith_res2 (s : State) (c : Byte) :
    (s.completedWith c).res2 = s.res2 := rfl

@[simp] theorem State.completedWith_res3 (s : State) (c : Byte) :
    (s.completedWith c).res3 = s.res3 := rfl

@[simp] theorem State.completedWith_res4 (s : State) (c : Byte) :
    (s.completedWith c).res4 = s.res4 := rfl

@[simp] theorem State.completedWith_res5 (s : State) (c : Byte) :
    (s.completedWith c).res5 = s.res5 := rfl

@[simp] theorem State.completedWith_lanes (s : State) (c : Byte) :
    (s.completedWith c).lanes = s.lanes := rfl

@[simp] theorem State.completedWith_cw (s : State) (c : Byte) : (s.completedWith c).cw = s.cw := rfl

@[simp] theorem State.completedWith_snap (s : State) (c : Byte) :
    (s.completedWith c).snap = s.snap := rfl

@[simp] theorem State.completedWith_schedule (s : State) (c : Byte) :
    (s.completedWith c).schedule = s.schedule := rfl

@[simp] theorem State.completedWith_rdata (s : State) (c : Byte) :
    (s.completedWith c).rdata = s.rdata := rfl

/-! ## `State.accept` -/

@[simp] theorem State.accept_params (s : State) (w : Word) : (s.accept w).params = s.params := rfl

@[simp] theorem State.accept_status (s : State) (w : Word) :
    (s.accept w).status = s.status.accepted := rfl

@[simp] theorem State.accept_cfg (s : State) (w : Word) : (s.accept w).cfg = s.cfg := rfl

@[simp] theorem State.accept_acfg (s : State) (w : Word) : (s.accept w).acfg = s.acfg := rfl

@[simp] theorem State.accept_pos (s : State) (w : Word) : (s.accept w).pos = s.pos := rfl

@[simp] theorem State.accept_len (s : State) (w : Word) : (s.accept w).len = s.len := rfl

@[simp] theorem State.accept_present (s : State) (w : Word) : (s.accept w).present = s.present := rfl

@[simp] theorem State.accept_nz (s : State) (w : Word) : (s.accept w).nz = s.nz := rfl

@[simp] theorem State.accept_chk (s : State) (w : Word) : (s.accept w).chk = s.chk := rfl

@[simp] theorem State.accept_res0 (s : State) (w : Word) : (s.accept w).res0 = s.res0 := rfl

@[simp] theorem State.accept_res1 (s : State) (w : Word) : (s.accept w).res1 = s.res1 := rfl

@[simp] theorem State.accept_res2 (s : State) (w : Word) : (s.accept w).res2 = s.res2 := rfl

@[simp] theorem State.accept_res3 (s : State) (w : Word) : (s.accept w).res3 = s.res3 := rfl

@[simp] theorem State.accept_res4 (s : State) (w : Word) : (s.accept w).res4 = s.res4 := rfl

@[simp] theorem State.accept_res5 (s : State) (w : Word) : (s.accept w).res5 = s.res5 := rfl

@[simp] theorem State.accept_lanes (s : State) (w : Word) : (s.accept w).lanes = s.lanes := rfl

@[simp] theorem State.accept_cw (s : State) (w : Word) : (s.accept w).cw = w := rfl

@[simp] theorem State.accept_snap (s : State) (w : Word) : (s.accept w).snap = s.takeSnap := rfl

@[simp] theorem State.accept_schedule (s : State) (w : Word) : (s.accept w).schedule = s.schedule := rfl

@[simp] theorem State.accept_rdata (s : State) (w : Word) : (s.accept w).rdata = s.rdata := rfl

/-! ## `State.popped` -/

@[simp] theorem State.popped_params (s : State) (rest : List Event) :
    (s.popped rest).params = s.params := rfl

@[simp] theorem State.popped_status (s : State) (rest : List Event) :
    (s.popped rest).status = s.status := rfl

@[simp] theorem State.popped_cfg (s : State) (rest : List Event) : (s.popped rest).cfg = s.cfg := rfl

@[simp] theorem State.popped_acfg (s : State) (rest : List Event) : (s.popped rest).acfg = s.acfg := rfl

@[simp] theorem State.popped_pos (s : State) (rest : List Event) : (s.popped rest).pos = s.pos := rfl

@[simp] theorem State.popped_len (s : State) (rest : List Event) : (s.popped rest).len = s.len := rfl

@[simp] theorem State.popped_present (s : State) (rest : List Event) :
    (s.popped rest).present = s.present := rfl

@[simp] theorem State.popped_nz (s : State) (rest : List Event) : (s.popped rest).nz = s.nz := rfl

@[simp] theorem State.popped_chk (s : State) (rest : List Event) : (s.popped rest).chk = s.chk := rfl

@[simp] theorem State.popped_res0 (s : State) (rest : List Event) : (s.popped rest).res0 = s.res0 := rfl

@[simp] theorem State.popped_res1 (s : State) (rest : List Event) : (s.popped rest).res1 = s.res1 := rfl

@[simp] theorem State.popped_res2 (s : State) (rest : List Event) : (s.popped rest).res2 = s.res2 := rfl

@[simp] theorem State.popped_res3 (s : State) (rest : List Event) : (s.popped rest).res3 = s.res3 := rfl

@[simp] theorem State.popped_res4 (s : State) (rest : List Event) : (s.popped rest).res4 = s.res4 := rfl

@[simp] theorem State.popped_res5 (s : State) (rest : List Event) : (s.popped rest).res5 = s.res5 := rfl

@[simp] theorem State.popped_lanes (s : State) (rest : List Event) :
    (s.popped rest).lanes = s.lanes := rfl

@[simp] theorem State.popped_cw (s : State) (rest : List Event) : (s.popped rest).cw = s.cw := rfl

@[simp] theorem State.popped_snap (s : State) (rest : List Event) : (s.popped rest).snap = s.snap := rfl

@[simp] theorem State.popped_schedule (s : State) (rest : List Event) :
    (s.popped rest).schedule = rest := rfl

@[simp] theorem State.popped_rdata (s : State) (rest : List Event) :
    (s.popped rest).rdata = s.rdata := rfl

/-! ## `State.withPending` -/

@[simp] theorem State.withPending_params (s : State) (w : Word) :
    (s.withPending w).params = s.params := rfl

@[simp] theorem State.withPending_status (s : State) (w : Word) :
    (s.withPending w).status = s.status.accepted := rfl

@[simp] theorem State.withPending_cfg (s : State) (w : Word) : (s.withPending w).cfg = s.cfg := rfl

@[simp] theorem State.withPending_acfg (s : State) (w : Word) : (s.withPending w).acfg = s.acfg := rfl

@[simp] theorem State.withPending_pos (s : State) (w : Word) : (s.withPending w).pos = s.pos := rfl

@[simp] theorem State.withPending_len (s : State) (w : Word) : (s.withPending w).len = s.len := rfl

@[simp] theorem State.withPending_present (s : State) (w : Word) :
    (s.withPending w).present = s.present := rfl

@[simp] theorem State.withPending_nz (s : State) (w : Word) : (s.withPending w).nz = s.nz := rfl

@[simp] theorem State.withPending_chk (s : State) (w : Word) : (s.withPending w).chk = s.chk := rfl

@[simp] theorem State.withPending_res0 (s : State) (w : Word) : (s.withPending w).res0 = s.res0 := rfl

@[simp] theorem State.withPending_res1 (s : State) (w : Word) : (s.withPending w).res1 = s.res1 := rfl

@[simp] theorem State.withPending_res2 (s : State) (w : Word) : (s.withPending w).res2 = s.res2 := rfl

@[simp] theorem State.withPending_res3 (s : State) (w : Word) : (s.withPending w).res3 = s.res3 := rfl

@[simp] theorem State.withPending_res4 (s : State) (w : Word) : (s.withPending w).res4 = s.res4 := rfl

@[simp] theorem State.withPending_res5 (s : State) (w : Word) : (s.withPending w).res5 = s.res5 := rfl

@[simp] theorem State.withPending_lanes (s : State) (w : Word) : (s.withPending w).lanes = s.lanes := rfl

@[simp] theorem State.withPending_cw (s : State) (w : Word) : (s.withPending w).cw = w := rfl

@[simp] theorem State.withPending_snap (s : State) (w : Word) :
    (s.withPending w).snap = s.takeSnap := rfl

@[simp] theorem State.withPending_schedule (s : State) (w : Word) :
    (s.withPending w).schedule = .engine :: s.schedule := rfl

@[simp] theorem State.withPending_rdata (s : State) (w : Word) : (s.withPending w).rdata = s.rdata := rfl

/-! ## `State.clearChecker` -/

@[simp] theorem State.clearChecker_params (s : State) : (s.clearChecker).params = s.params := rfl

@[simp] theorem State.clearChecker_status (s : State) : (s.clearChecker).status = s.status := rfl

@[simp] theorem State.clearChecker_cfg (s : State) : (s.clearChecker).cfg = s.cfg := rfl

@[simp] theorem State.clearChecker_acfg (s : State) : (s.clearChecker).acfg = s.acfg := rfl

@[simp] theorem State.clearChecker_pos (s : State) : (s.clearChecker).pos = s.pos := rfl

@[simp] theorem State.clearChecker_len (s : State) : (s.clearChecker).len = s.len := rfl

@[simp] theorem State.clearChecker_present (s : State) : (s.clearChecker).present = s.present := rfl

@[simp] theorem State.clearChecker_nz (s : State) : (s.clearChecker).nz = 0 := rfl

@[simp] theorem State.clearChecker_chk (s : State) : (s.clearChecker).chk = Chk.zero := rfl

@[simp] theorem State.clearChecker_res0 (s : State) : (s.clearChecker).res0 = s.res0 := rfl

@[simp] theorem State.clearChecker_res1 (s : State) : (s.clearChecker).res1 = s.res1 := rfl

@[simp] theorem State.clearChecker_res2 (s : State) : (s.clearChecker).res2 = s.res2 := rfl

@[simp] theorem State.clearChecker_res3 (s : State) : (s.clearChecker).res3 = s.res3 := rfl

@[simp] theorem State.clearChecker_res4 (s : State) : (s.clearChecker).res4 = s.res4 := rfl

@[simp] theorem State.clearChecker_res5 (s : State) : (s.clearChecker).res5 = s.res5 := rfl

@[simp] theorem State.clearChecker_lanes (s : State) : (s.clearChecker).lanes = s.lanes := rfl

@[simp] theorem State.clearChecker_cw (s : State) : (s.clearChecker).cw = s.cw := rfl

@[simp] theorem State.clearChecker_snap (s : State) : (s.clearChecker).snap = s.snap := rfl

@[simp] theorem State.clearChecker_schedule (s : State) : (s.clearChecker).schedule = s.schedule := rfl

@[simp] theorem State.clearChecker_rdata (s : State) : (s.clearChecker).rdata = s.rdata := rfl

/-! ## `State.configure` -/

@[simp] theorem State.configure_params (s : State) (c : Cfg) : (s.configure c).params = s.params := rfl

@[simp] theorem State.configure_status (s : State) (c : Cfg) :
    (s.configure c).status = { s.status with cfgok := true } := rfl

@[simp] theorem State.configure_cfg (s : State) (c : Cfg) : (s.configure c).cfg = s.cfg := rfl

@[simp] theorem State.configure_acfg (s : State) (c : Cfg) : (s.configure c).acfg = c := rfl

@[simp] theorem State.configure_pos (s : State) (c : Cfg) : (s.configure c).pos = s.pos := rfl

@[simp] theorem State.configure_len (s : State) (c : Cfg) : (s.configure c).len = s.len := rfl

@[simp] theorem State.configure_present (s : State) (c : Cfg) :
    (s.configure c).present = s.present := rfl

@[simp] theorem State.configure_nz (s : State) (c : Cfg) : (s.configure c).nz = 0 := rfl

@[simp] theorem State.configure_chk (s : State) (c : Cfg) : (s.configure c).chk = Chk.zero := rfl

@[simp] theorem State.configure_res0 (s : State) (c : Cfg) : (s.configure c).res0 = s.res0 := rfl

@[simp] theorem State.configure_res1 (s : State) (c : Cfg) : (s.configure c).res1 = s.res1 := rfl

@[simp] theorem State.configure_res2 (s : State) (c : Cfg) : (s.configure c).res2 = s.res2 := rfl

@[simp] theorem State.configure_res3 (s : State) (c : Cfg) : (s.configure c).res3 = s.res3 := rfl

@[simp] theorem State.configure_res4 (s : State) (c : Cfg) : (s.configure c).res4 = s.res4 := rfl

@[simp] theorem State.configure_res5 (s : State) (c : Cfg) : (s.configure c).res5 = s.res5 := rfl

@[simp] theorem State.configure_lanes (s : State) (c : Cfg) : (s.configure c).lanes = s.lanes := rfl

@[simp] theorem State.configure_cw (s : State) (c : Cfg) : (s.configure c).cw = s.cw := rfl

@[simp] theorem State.configure_snap (s : State) (c : Cfg) : (s.configure c).snap = s.snap := rfl

@[simp] theorem State.configure_schedule (s : State) (c : Cfg) :
    (s.configure c).schedule = s.schedule := rfl

@[simp] theorem State.configure_rdata (s : State) (c : Cfg) : (s.configure c).rdata = s.rdata := rfl

/-! ## `State.unconfigure` -/

@[simp] theorem State.unconfigure_params (s : State) : (s.unconfigure).params = s.params := rfl

@[simp] theorem State.unconfigure_status (s : State) :
    (s.unconfigure).status = { s.status with cfgok := false } := rfl

@[simp] theorem State.unconfigure_cfg (s : State) : (s.unconfigure).cfg = s.cfg := rfl

@[simp] theorem State.unconfigure_acfg (s : State) : (s.unconfigure).acfg = Cfg.zero := rfl

@[simp] theorem State.unconfigure_pos (s : State) : (s.unconfigure).pos = s.pos := rfl

@[simp] theorem State.unconfigure_len (s : State) : (s.unconfigure).len = s.len := rfl

@[simp] theorem State.unconfigure_present (s : State) : (s.unconfigure).present = s.present := rfl

@[simp] theorem State.unconfigure_nz (s : State) : (s.unconfigure).nz = 0 := rfl

@[simp] theorem State.unconfigure_chk (s : State) : (s.unconfigure).chk = Chk.zero := rfl

@[simp] theorem State.unconfigure_res0 (s : State) : (s.unconfigure).res0 = s.res0 := rfl

@[simp] theorem State.unconfigure_res1 (s : State) : (s.unconfigure).res1 = s.res1 := rfl

@[simp] theorem State.unconfigure_res2 (s : State) : (s.unconfigure).res2 = s.res2 := rfl

@[simp] theorem State.unconfigure_res3 (s : State) : (s.unconfigure).res3 = s.res3 := rfl

@[simp] theorem State.unconfigure_res4 (s : State) : (s.unconfigure).res4 = s.res4 := rfl

@[simp] theorem State.unconfigure_res5 (s : State) : (s.unconfigure).res5 = s.res5 := rfl

@[simp] theorem State.unconfigure_lanes (s : State) : (s.unconfigure).lanes = s.lanes := rfl

@[simp] theorem State.unconfigure_cw (s : State) : (s.unconfigure).cw = s.cw := rfl

@[simp] theorem State.unconfigure_snap (s : State) : (s.unconfigure).snap = s.snap := rfl

@[simp] theorem State.unconfigure_schedule (s : State) : (s.unconfigure).schedule = s.schedule := rfl

@[simp] theorem State.unconfigure_rdata (s : State) : (s.unconfigure).rdata = s.rdata := rfl

/-! ## `State.putMapping` -/

@[simp] theorem State.putMapping_params (s : State) (m : Mapping) :
    (s.putMapping m).params = s.params := rfl

@[simp] theorem State.putMapping_status (s : State) (m : Mapping) :
    (s.putMapping m).status = s.status := rfl

@[simp] theorem State.putMapping_cfg (s : State) (m : Mapping) : (s.putMapping m).cfg = s.cfg := rfl

@[simp] theorem State.putMapping_acfg (s : State) (m : Mapping) : (s.putMapping m).acfg = s.acfg := rfl

@[simp] theorem State.putMapping_pos (s : State) (m : Mapping) : (s.putMapping m).pos = s.pos := rfl

@[simp] theorem State.putMapping_len (s : State) (m : Mapping) : (s.putMapping m).len = s.len := rfl

@[simp] theorem State.putMapping_present (s : State) (m : Mapping) :
    (s.putMapping m).present = s.present := rfl

@[simp] theorem State.putMapping_nz (s : State) (m : Mapping) : (s.putMapping m).nz = s.nz := rfl

@[simp] theorem State.putMapping_chk (s : State) (m : Mapping) : (s.putMapping m).chk = s.chk := rfl

@[simp] theorem State.putMapping_res0 (s : State) (m : Mapping) :
    (s.putMapping m).res0 = optResult m.stripe := rfl

@[simp] theorem State.putMapping_res1 (s : State) (m : Mapping) :
    (s.putMapping m).res1 = natResult m.disk := rfl

@[simp] theorem State.putMapping_res2 (s : State) (m : Mapping) :
    (s.putMapping m).res2 = natResult m.offset := rfl

@[simp] theorem State.putMapping_res3 (s : State) (m : Mapping) :
    (s.putMapping m).res3 = optResult m.second := rfl

@[simp] theorem State.putMapping_res4 (s : State) (m : Mapping) :
    (s.putMapping m).res4 = optResult m.third := rfl

@[simp] theorem State.putMapping_res5 (s : State) (m : Mapping) :
    (s.putMapping m).res5 = optResult m.inner := rfl

@[simp] theorem State.putMapping_lanes (s : State) (m : Mapping) :
    (s.putMapping m).lanes = s.lanes := rfl

@[simp] theorem State.putMapping_cw (s : State) (m : Mapping) : (s.putMapping m).cw = s.cw := rfl

@[simp] theorem State.putMapping_snap (s : State) (m : Mapping) : (s.putMapping m).snap = s.snap := rfl

@[simp] theorem State.putMapping_schedule (s : State) (m : Mapping) :
    (s.putMapping m).schedule = s.schedule := rfl

@[simp] theorem State.putMapping_rdata (s : State) (m : Mapping) :
    (s.putMapping m).rdata = s.rdata := rfl

/-! ## `State.assertReset` -/

@[simp] theorem State.assertReset_params (s : State) : (s.assertReset).params = s.params := rfl

@[simp] theorem State.assertReset_status (s : State) : (s.assertReset).status = Status.zero := rfl

@[simp] theorem State.assertReset_cfg (s : State) : (s.assertReset).cfg = Cfg.zero := rfl

@[simp] theorem State.assertReset_acfg (s : State) : (s.assertReset).acfg = Cfg.zero := rfl

@[simp] theorem State.assertReset_pos (s : State) : (s.assertReset).pos = 0 := rfl

@[simp] theorem State.assertReset_len (s : State) : (s.assertReset).len = 0 := rfl

@[simp] theorem State.assertReset_present (s : State) : (s.assertReset).present = 0 := rfl

@[simp] theorem State.assertReset_nz (s : State) : (s.assertReset).nz = 0 := rfl

@[simp] theorem State.assertReset_chk (s : State) : (s.assertReset).chk = Chk.zero := rfl

@[simp] theorem State.assertReset_res0 (s : State) : (s.assertReset).res0 = 0 := rfl

@[simp] theorem State.assertReset_res1 (s : State) : (s.assertReset).res1 = 0 := rfl

@[simp] theorem State.assertReset_res2 (s : State) : (s.assertReset).res2 = 0 := rfl

@[simp] theorem State.assertReset_res3 (s : State) : (s.assertReset).res3 = 0 := rfl

@[simp] theorem State.assertReset_res4 (s : State) : (s.assertReset).res4 = 0 := rfl

@[simp] theorem State.assertReset_res5 (s : State) : (s.assertReset).res5 = 0 := rfl

@[simp] theorem State.assertReset_lanes (s : State) : (s.assertReset).lanes = LaneFile.zero := rfl

@[simp] theorem State.assertReset_cw (s : State) : (s.assertReset).cw = 0 := rfl

@[simp] theorem State.assertReset_snap (s : State) : (s.assertReset).snap = Snapshot.zero := rfl

@[simp] theorem State.assertReset_schedule (s : State) : (s.assertReset).schedule = s.schedule := rfl

@[simp] theorem State.assertReset_rdata (s : State) : (s.assertReset).rdata = s.rdata := rfl

/-! ## `Status` -/

@[simp] theorem Status.completed_busy (st : Status) (e : ErrCode) (op : Byte) : (st.completed e op).busy = false := rfl

@[simp] theorem Status.completed_done (st : Status) (e : ErrCode) (op : Byte) : (st.completed e op).done = true := rfl

@[simp] theorem Status.completed_cfgok (st : Status) (e : ErrCode) (op : Byte) : (st.completed e op).cfgok = st.cfgok := rfl

@[simp] theorem Status.completed_ovr (st : Status) (e : ErrCode) (op : Byte) : (st.completed e op).ovr = st.ovr := rfl

@[simp] theorem Status.completed_err (st : Status) (e : ErrCode) (op : Byte) : (st.completed e op).err = e.code := rfl

@[simp] theorem Status.completed_lastop (st : Status) (e : ErrCode) (op : Byte) : (st.completed e op).lastop = op := rfl

@[simp] theorem Status.accepted_busy (st : Status) : (st.accepted).busy = true := rfl

@[simp] theorem Status.accepted_done (st : Status) : (st.accepted).done = false := rfl

@[simp] theorem Status.accepted_cfgok (st : Status) : (st.accepted).cfgok = st.cfgok := rfl

@[simp] theorem Status.accepted_ovr (st : Status) : (st.accepted).ovr = st.ovr := rfl

@[simp] theorem Status.accepted_err (st : Status) : (st.accepted).err = 0 := rfl

@[simp] theorem Status.accepted_lastop (st : Status) : (st.accepted).lastop = st.lastop := rfl

@[simp] theorem Status.overrun_busy (st : Status) : (st.overrun).busy = st.busy := rfl

@[simp] theorem Status.overrun_done (st : Status) : (st.overrun).done = st.done := rfl

@[simp] theorem Status.overrun_cfgok (st : Status) : (st.overrun).cfgok = st.cfgok := rfl

@[simp] theorem Status.overrun_ovr (st : Status) : (st.overrun).ovr = true := rfl

@[simp] theorem Status.overrun_err (st : Status) : (st.overrun).err = st.err := rfl

@[simp] theorem Status.overrun_lastop (st : Status) : (st.overrun).lastop = st.lastop := rfl

@[simp] theorem State.doneStatus_busy (s : State) (c : Byte) : (s.doneStatus c).busy = false := rfl

@[simp] theorem State.doneStatus_done (s : State) (c : Byte) : (s.doneStatus c).done = true := rfl

@[simp] theorem State.doneStatus_cfgok (s : State) (c : Byte) : (s.doneStatus c).cfgok = s.status.cfgok := rfl

@[simp] theorem State.doneStatus_ovr (s : State) (c : Byte) : (s.doneStatus c).ovr = s.status.ovr := rfl

@[simp] theorem State.doneStatus_err (s : State) (c : Byte) : (s.doneStatus c).err = c := rfl

@[simp] theorem State.doneStatus_lastop (s : State) (c : Byte) : (s.doneStatus c).lastop = opField s.cw := rfl

/-- A write-one-to-clear write: OVR stays only where the written bit 3 is 0. -/
theorem Status.w1c_eq (st : Status) (v : Word) :
    st.w1c v = { st with ovr := st.ovr && !v.getLsbD 3 } := by
  unfold Status.w1c
  split <;> simp_all

/-- Completing with a code is the statements' `completedWith`. -/
theorem State.complete_eq_completedWith (s : State) (e : ErrCode) : s.complete e = s.completedWith e.code := rfl

end Sys2Proof.Machine
end

