-- ==== Sys2Proof/Laws/Ops.lean ====
section
/-! SUPPORT. For each shared operation one lemma that says once everything it can do; proofs cite these instead of
unfolding the operation. -/

namespace Sys2Proof.Machine

/-! ## Completing and finishing -/

/-- No check fails exactly when all pass. -/
theorem firstFailure_eq_none (checks : List Check) : firstFailure checks = none ↔ ∀ c ∈ checks, c.1 = true := by
  induction checks with
  | nil => simp [firstFailure]
  | cons c rest ih =>
    obtain ⟨b, e⟩ := c
    cases b <;> simp [firstFailure, ih]

/-- A reported failure is the error of a check that fails. -/
theorem firstFailure_some (checks : List Check) (e : ErrCode) (h : firstFailure checks = some e) :
    (false, e) ∈ checks := by
  induction checks with
  | nil => simp [firstFailure] at h
  | cons c rest ih =>
    obtain ⟨b, e'⟩ := c
    cases b
    · simp_all [firstFailure]
    · exact List.mem_cons_of_mem _ (ih (by simpa [firstFailure] using h))

/-- All that `finish` does: with a failing check the command completes with that check's error and no write;
with none it completes with its writes and its code. -/
theorem finish_cases (checks : List Check) (s s' : State) (e : ErrCode) :
    (∃ err, (false, err) ∈ checks ∧ finish checks s s' e = .next (s.complete err)) ∨
      ((∀ c ∈ checks, c.1 = true) ∧ finish checks s s' e = .next (s'.complete e)) := by
  unfold finish
  cases h : firstFailure checks with
  | none => exact .inr ⟨(firstFailure_eq_none checks).mp h, rfl⟩
  | some err => exact .inl ⟨err, firstFailure_some checks err h, rfl⟩

/-- With every check passing, the command completes with its writes. -/
theorem finish_of_passes (checks : List Check) (s s' : State) (e : ErrCode) (h : ∀ c ∈ checks, c.1 = true) :
    finish checks s s' e = .next (s'.complete e) := by
  simp [finish, (firstFailure_eq_none checks).mpr h]

/-- `finish` answers a next state: no command stops the machine. -/
theorem finish_next (checks : List Check) (s s' : State) (e : ErrCode) :
    ∃ err t, finish checks s s' e = .next (t.complete err) ∧ (t = s ∨ t = s') := by
  rcases finish_cases checks s s' e with ⟨err, -, h⟩ | ⟨-, h⟩
  · exact ⟨err, s, h, .inl rfl⟩
  · exact ⟨e, s', h, .inr rfl⟩

@[simp] theorem finish_nil (s s' : State) (e : ErrCode) : finish [] s s' e = .next (s'.complete e) := rfl

@[simp] theorem finish_cons_true (e₀ : ErrCode) (cs : List Check) (s s' : State) (e : ErrCode) :
    finish ((true, e₀) :: cs) s s' e = finish cs s s' e := rfl

@[simp] theorem finish_cons_false (e₀ : ErrCode) (cs : List Check) (s s' : State) (e : ErrCode) :
    finish ((false, e₀) :: cs) s s' e = .next (s.complete e₀) := rfl

/-! ## Levels -/

/-- A LEVEL field names the level whose code it is, and no other. -/
theorem Level.ofCode_eq_some (c : Byte) (l : Level) : Level.ofCode c = some l ↔ c = l.code := by
  constructor
  · intro h
    have := List.find?_some h
    simpa using (of_decide_eq_true (by simpa using this) : l.code = c).symm
  · rintro rfl
    cases l <;> decide

/-- CONFIG's test is the spec's constraints (40_control.md R101). -/
theorem configOk_iff (nmax : Nat) (c : Cfg) : configOk nmax c = true ↔ LegalCfg nmax c := by
  unfold configOk LegalCfg
  cases hl : Level.ofCode c.level with
  | some l =>
    have h := (Level.ofCode_eq_some c.level l).mp hl
    cases l <;> simp [h, Level.code] <;> omega
  | none =>
    have h : ∀ l : Level, c.level ≠ l.code := fun l hc => by
      rw [(Level.ofCode_eq_some c.level l).mpr hc] at hl
      cases hl
    have h0 := h .raid0
    have h1 := h .raid1
    have h10 := h .raid10
    have h5 := h .raid5
    have h6 := h .raid6
    simp only [Level.code] at h0 h1 h10 h5 h6
    simp_all

/-! ## The window -/

/-- The window's offsets are the multiples of 8 in 0x00 to 0xF8. -/
theorem admitted_iff (p : Params) (addr width : Nat) :
    admitted p addr width = true ↔ width = 8 ∧ ∃ j, j < 32 ∧ addr = p.base + 8 * j := by
  simp only [admitted, Bool.and_eq_true, decide_eq_true_eq]
  constructor
  · rintro ⟨⟨⟨hw, hb⟩, hm⟩, hr⟩
    exact ⟨hw, (addr - p.base) / 8, by omega, by omega⟩
  · rintro ⟨hw, j, hj, rfl⟩
    refine ⟨⟨⟨hw, by omega⟩, by omega⟩, by omega⟩

/-- An admitted store is the write action of its slot. -/
theorem hostStore_at (s : State) (j : Nat) (hj : j < 32) (v : Word) :
    hostStore (s.params.base + 8 * j) 8 v s = .next (writeSlot (8 * j) v s) := by
  have h : admitted s.params (s.params.base + 8 * j) 8 = true := (admitted_iff _ _ _).mpr ⟨rfl, j, hj, rfl⟩
  simp [hostStore, h]

/-- An admitted load returns its slot's value. -/
theorem hostLoad_at (s : State) (j : Nat) (hj : j < 32) :
    hostLoad (s.params.base + 8 * j) 8 s = .next { s with rdata := some (readSlot (8 * j) s) } := by
  have h : admitted s.params (s.params.base + 8 * j) 8 = true := (admitted_iff _ _ _).mpr ⟨rfl, j, hj, rfl⟩
  simp [hostLoad, h]

/-- All that a CMD write does. -/
theorem issue_cases (s : State) (w : Word) :
    (s.status.busy = true ∧ s.issue w = { s with status := s.status.overrun }) ∨
      (s.status.busy = false ∧ s.issue w = s.accept w) := by
  unfold State.issue
  cases s.status.busy <;> simp

/-- All that the write action of a register does: the registers it can write, and how. -/
theorem writeReg_cases (r : Reg) (v : Word) (s : State) :
    writeReg r v s = s ∨ writeReg r v s = s.issue v ∨
      (writeReg r v s = { s with status := s.status.w1c v }) ∨
      (writeReg r v s = { s with cfg := Cfg.ofWord v }) ∨ (writeReg r v s = { s with pos := v }) ∨
      (writeReg r v s = { s with len := v }) ∨
      (writeReg r v s = { s with present := v &&& presentMask s.params.nmax }) ∨
      (∃ j, writeReg r v s = { s with lanes := s.lanes.setReg j (v &&& laneMask s.params.nmax j) }) := by
  cases r with
  | cmd => exact .inr (.inl rfl)
  | status => exact .inr (.inr (.inl rfl))
  | cfg => exact .inr (.inr (.inr (.inl rfl)))
  | pos => exact .inr (.inr (.inr (.inr (.inl rfl))))
  | len => exact .inr (.inr (.inr (.inr (.inr (.inl rfl)))))
  | present => exact .inr (.inr (.inr (.inr (.inr (.inr (.inl rfl))))))
  | lanew j => exact .inr (.inr (.inr (.inr (.inr (.inr (.inr ⟨j, rfl⟩))))))
  | acfg => exact .inl rfl
  | nz => exact .inl rfl
  | chk => exact .inl rfl
  | res _ => exact .inl rfl

/-! ## The turns -/

/-- All that the engine's turn does: nothing while idle, the decoded command, or ILLEGAL. -/
theorem engineTurn_cases (s : State) :
    (s.status.busy = false ∧ engineTurn s = .next s) ∨
      (s.status.busy = true ∧ ∃ i, decode s.cw = .ok i ∧ engineTurn s = exec i s) ∨
      (s.status.busy = true ∧ (∃ e, decode s.cw = .error e) ∧ engineTurn s = .next (s.complete .illegal)) := by
  unfold engineTurn
  cases hb : s.status.busy with
  | false => simp
  | true => cases hd : decode s.cw <;> simp

/-- The step by the head of the schedule. -/
theorem step_cases (s : State) :
    (s.schedule = [] ∧ step s = engineTurn s) ∨
      (∃ e rest, s.schedule = e :: rest ∧ step s = turn e (s.popped rest)) := by
  unfold step
  cases h : s.schedule with
  | nil => exact .inl ⟨rfl, rfl⟩
  | cons e rest => exact .inr ⟨e, rest, rfl, rfl⟩

/-! ## Lanes, sets and XOR -/

/-- Writing LANEW j changes the eight lanes of that register and no other. -/
theorem LaneFile.lane_setReg (l : LaneFile) (j : Fin 4) (v : Word) (k : Nat) (hk : k < 32) :
    (l.setReg j v).lane k = if k / 8 = j.val then v.extractLsb' (8 * (k % 8)) 8 else l.lane k := by
  have h4 : k / 8 = 0 ∨ k / 8 = 1 ∨ k / 8 = 2 ∨ k / 8 = 3 := by omega
  fin_cases j <;> rcases h4 with h | h | h | h <;> simp [LaneFile.lane, LaneFile.setReg, h]

/-- There is no lane from 32 on. -/
theorem LaneFile.lane_of_ge (l : LaneFile) (k : Nat) (hk : 32 ≤ k) : l.lane k = 0 := by
  have h : k / 8 ≠ 0 ∧ k / 8 ≠ 1 ∧ k / 8 ≠ 2 ∧ k / 8 ≠ 3 := by omega
  unfold LaneFile.lane
  split <;> simp_all

/-- The live lanes' bits of a masked word. -/
theorem getLsbD_lowMask (m k : Nat) : (lowMask m).getLsbD k = (decide (k < 64) && decide (k < m)) := by
  simp [lowMask, BitVec.getLsbD_ofNat, Nat.testBit_two_pow_sub_one]

/-- What a host write of LANEW j stores in a lane: the written byte where the lane exists, else 0. -/
theorem extractLsb'_and_laneMask (nmax : Nat) (j : Fin 4) (v : Word) (k : Nat) (hk : k / 8 = j.val) :
    (v &&& laneMask nmax j).extractLsb' (8 * (k % 8)) 8 =
      if k < nmax then v.extractLsb' (8 * (k % 8)) 8 else 0 := by
  apply BitVec.eq_of_getLsbD_eq
  intro i hi
  have h64 : 8 * (k % 8) + i < 64 := by omega
  have hm : i < 8 → (8 * (k % 8) + i < 8 * min 8 (nmax - 8 * j.val) ↔ k < nmax) := by omega
  simp only [BitVec.getLsbD_extractLsb', BitVec.getLsbD_and, laneMask, getLsbD_lowMask, hi, h64, hm hi,
    decide_true, Bool.true_and]
  split <;> simp_all

/-- A mapper result below 2^64 is written exactly (41_mapper.md R110). -/
theorem toNat_natResult (v : Nat) (h : v < 2 ^ 64) : (natResult v).toNat = v := by
  rw [natResult, BitVec.toNat_ofNat, Nat.mod_eq_of_lt h]

@[simp] theorem mem_diskSet (n k : Nat) (f : Nat → Bool) : k ∈ diskSet n f ↔ k < n ∧ f k = true := by
  simp [diskSet]

@[simp] theorem xorOver_nil (e : Nat → Byte) : xorOver [] e = 0 := rfl

@[simp] theorem xorOver_cons (k : Nat) (ks : List Nat) (e : Nat → Byte) :
    xorOver (k :: ks) e = e k ^^^ xorOver ks e := rfl

/-- The XOR over two lists one after the other. -/
theorem xorOver_append (ks ls : List Nat) (e : Nat → Byte) :
    xorOver (ks ++ ls) e = xorOver ks e ^^^ xorOver ls e := by
  induction ks with
  | nil => simp
  | cons k ks ih => simp [ih, BitVec.xor_assoc]

@[simp] theorem maskOf_nil : maskOf [] = 0 := rfl

@[simp] theorem maskOf_cons (k : Nat) (ks : List Nat) : maskOf (k :: ks) = BitVec.twoPow 64 k ||| maskOf ks := rfl

/-- The bits of a set's mask are its members. -/
theorem getLsbD_maskOf (ks : List Nat) (k : Nat) (hk : k < 64) :
    (maskOf ks).getLsbD k = decide (k ∈ ks) := by
  induction ks with
  | nil => simp
  | cons j ks ih =>
    rw [maskOf_cons, BitVec.getLsbD_or, ih, BitVec.getLsbD_twoPow]
    by_cases h : k = j
    · subst h
      simp [hk]
    · simp [h, Ne.symm h]

end Sys2Proof.Machine
end

