-- ==== Sys2Proof/Laws/PerInstr.lean ====
section
/-! SUPPORT. Facts about the word of each command, one lemma per constructor. -/

namespace Sys2Proof.Laws

/-- The bits of a word of R73, one by one. -/
theorem getLsbD_enc (op t u : Byte) (k : Nat) (hk : k < 64) :
    (enc op t u).getLsbD k =
      (op.getLsbD k || (decide (8 ≤ k) && t.getLsbD (k - 8)) || (decide (16 ≤ k) && u.getLsbD (k - 16))) := by
  have h8 : (!decide (k < 8)) = decide (8 ≤ k) := by
    rw [← decide_not, decide_eq_decide]; omega
  have h16 : (!decide (k < 16)) = decide (16 ≤ k) := by
    rw [← decide_not, decide_eq_decide]; omega
  simp only [enc, BitVec.getLsbD_or, BitVec.getLsbD_shiftLeft, BitVec.getLsbD_setWidth, hk, h8, h16,
    decide_true, Bool.true_and, show k - 8 < 64 by omega, show k - 16 < 64 by omega]

/-- A word of R73 holds its opcode in OP. -/
theorem opField_enc (op t u : Byte) : opField (enc op t u) = op := by
  apply BitVec.eq_of_getLsbD_eq
  intro k hk
  simp only [opField, BitVec.getLsbD_extractLsb', hk, decide_true, Bool.true_and, Nat.zero_add,
    getLsbD_enc op t u k (by omega), show ¬ 8 ≤ k by omega, show ¬ 16 ≤ k by omega, decide_false,
    Bool.false_and, Bool.or_false]

/-- A word of R73 holds its first operand in T. -/
theorem tField_enc (op t u : Byte) : tField (enc op t u) = t := by
  apply BitVec.eq_of_getLsbD_eq
  intro k hk
  simp only [tField, BitVec.getLsbD_extractLsb', hk, decide_true, Bool.true_and,
    getLsbD_enc op t u (8 + k) (by omega), BitVec.getLsbD_of_ge op (8 + k) (by omega),
    show 8 ≤ 8 + k by omega, show ¬ 16 ≤ 8 + k by omega, decide_false, Bool.false_and, Bool.false_or,
    Bool.or_false, Nat.add_sub_cancel_left]

/-- A word of R73 holds its second operand in U. -/
theorem uField_enc (op t u : Byte) : uField (enc op t u) = u := by
  apply BitVec.eq_of_getLsbD_eq
  intro k hk
  simp only [uField, BitVec.getLsbD_extractLsb', hk, decide_true, Bool.true_and,
    getLsbD_enc op t u (16 + k) (by omega), BitVec.getLsbD_of_ge op (16 + k) (by omega),
    BitVec.getLsbD_of_ge t (16 + k - 8) (by omega), show 16 ≤ 16 + k by omega,
    Bool.and_false, Bool.false_or, Nat.add_sub_cancel_left]

end Sys2Proof.Laws

namespace Sys2Proof.Laws.WordShape

/-- The word of a command holds the command's opcode and operands in their fields (R70, R73). -/
def Statement (i : Instr) : Prop :=
  opField (encode i) = i.mnemonic.opcode ∧ tField (encode i) = i.t ∧ uField (encode i) = i.u

theorem nop : Statement .nop :=
  ⟨opField_enc _ _ _, tField_enc _ _ _, uField_enc _ _ _⟩

theorem config : Statement .config :=
  ⟨opField_enc _ _ _, tField_enc _ _ _, uField_enc _ _ _⟩

theorem clracc : Statement .clracc :=
  ⟨opField_enc _ _ _, tField_enc _ _ _, uField_enc _ _ _⟩

theorem map : Statement .map :=
  ⟨opField_enc _ _ _, tField_enc _ _ _, uField_enc _ _ _⟩

theorem range : Statement .range :=
  ⟨opField_enc _ _ _, tField_enc _ _ _, uField_enc _ _ _⟩

theorem alignchk : Statement .alignchk :=
  ⟨opField_enc _ _ _, tField_enc _ _ _, uField_enc _ _ _⟩

theorem xpEnc (p : Byte) : Statement (.xpEnc p) :=
  ⟨opField_enc _ _ _, tField_enc _ _ _, uField_enc _ _ _⟩

theorem xpAcc : Statement .xpAcc :=
  ⟨opField_enc _ _ _, tField_enc _ _ _, uField_enc _ _ _⟩

theorem xpEval (p : Byte) : Statement (.xpEval p) :=
  ⟨opField_enc _ _ _, tField_enc _ _ _, uField_enc _ _ _⟩

theorem xpRec : Statement .xpRec :=
  ⟨opField_enc _ _ _, tField_enc _ _ _, uField_enc _ _ _⟩

theorem gfMul (a b : Byte) : Statement (.gfMul a b) :=
  ⟨opField_enc _ _ _, tField_enc _ _ _, uField_enc _ _ _⟩

theorem gfInv (a : Byte) : Statement (.gfInv a) :=
  ⟨opField_enc _ _ _, tField_enc _ _ _, uField_enc _ _ _⟩

theorem r6Pq : Statement .r6Pq :=
  ⟨opField_enc _ _ _, tField_enc _ _ _, uField_enc _ _ _⟩

theorem r6Rec1 (t : Byte) : Statement (.r6Rec1 t) :=
  ⟨opField_enc _ _ _, tField_enc _ _ _, uField_enc _ _ _⟩

theorem r6Rec2 (t o : Byte) : Statement (.r6Rec2 t o) :=
  ⟨opField_enc _ _ _, tField_enc _ _ _, uField_enc _ _ _⟩

theorem r6Rec2Src (t o : Byte) : Statement (.r6Rec2Src t o) :=
  ⟨opField_enc _ _ _, tField_enc _ _ _, uField_enc _ _ _⟩

theorem r6Read (t : Byte) : Statement (.r6Read t) :=
  ⟨opField_enc _ _ _, tField_enc _ _ _, uField_enc _ _ _⟩

end Sys2Proof.Laws.WordShape

namespace Sys2Proof.Laws.Assembles

/-- The assembler accepts the term that writes a command, and makes that command of it (R77). -/
def Statement (i : Instr) : Prop := i.wellFormed = true ∧ assemble i.toAsm = some i

/-- A byte's value is one the assembler accepts (R77). -/
theorem byte_le_255 (b : Byte) : b.toNat ≤ 255 := Nat.lt_succ_iff.mp b.isLt

theorem nop : Statement .nop := ⟨rfl, rfl⟩

theorem config : Statement .config := ⟨rfl, rfl⟩

theorem clracc : Statement .clracc := ⟨rfl, rfl⟩

theorem map : Statement .map := ⟨rfl, rfl⟩

theorem range : Statement .range := ⟨rfl, rfl⟩

theorem alignchk : Statement .alignchk := ⟨rfl, rfl⟩

theorem xpEnc (p : Byte) : Statement (.xpEnc p) := by
  simp [Statement, assemble, Instr.wellFormed, Asm.wellFormed, Asm.arityOk, Asm.rangeOk, Instr.toAsm,
    Instr.operands, Instr.mnemonic, Mnemonic.format, Format.arity, Mnemonic.instr, byte_le_255 p]

theorem xpAcc : Statement .xpAcc := ⟨rfl, rfl⟩

theorem xpEval (p : Byte) : Statement (.xpEval p) := by
  simp [Statement, assemble, Instr.wellFormed, Asm.wellFormed, Asm.arityOk, Asm.rangeOk, Instr.toAsm,
    Instr.operands, Instr.mnemonic, Mnemonic.format, Format.arity, Mnemonic.instr, byte_le_255 p]

theorem xpRec : Statement .xpRec := ⟨rfl, rfl⟩

theorem gfMul (a b : Byte) : Statement (.gfMul a b) := by
  simp [Statement, assemble, Instr.wellFormed, Asm.wellFormed, Asm.arityOk, Asm.rangeOk, Instr.toAsm,
    Instr.operands, Instr.mnemonic, Mnemonic.format, Format.arity, Mnemonic.instr, byte_le_255 a, byte_le_255 b]

theorem gfInv (a : Byte) : Statement (.gfInv a) := by
  simp [Statement, assemble, Instr.wellFormed, Asm.wellFormed, Asm.arityOk, Asm.rangeOk, Instr.toAsm,
    Instr.operands, Instr.mnemonic, Mnemonic.format, Format.arity, Mnemonic.instr, byte_le_255 a]

theorem r6Pq : Statement .r6Pq := ⟨rfl, rfl⟩

theorem r6Rec1 (t : Byte) : Statement (.r6Rec1 t) := by
  simp [Statement, assemble, Instr.wellFormed, Asm.wellFormed, Asm.arityOk, Asm.rangeOk, Instr.toAsm,
    Instr.operands, Instr.mnemonic, Mnemonic.format, Format.arity, Mnemonic.instr, byte_le_255 t]

theorem r6Rec2 (t o : Byte) : Statement (.r6Rec2 t o) := by
  simp [Statement, assemble, Instr.wellFormed, Asm.wellFormed, Asm.arityOk, Asm.rangeOk, Instr.toAsm,
    Instr.operands, Instr.mnemonic, Mnemonic.format, Format.arity, Mnemonic.instr, byte_le_255 t, byte_le_255 o]

theorem r6Rec2Src (t o : Byte) : Statement (.r6Rec2Src t o) := by
  simp [Statement, assemble, Instr.wellFormed, Asm.wellFormed, Asm.arityOk, Asm.rangeOk, Instr.toAsm,
    Instr.operands, Instr.mnemonic, Mnemonic.format, Format.arity, Mnemonic.instr, byte_le_255 t, byte_le_255 o]

theorem r6Read (t : Byte) : Statement (.r6Read t) := by
  simp [Statement, assemble, Instr.wellFormed, Asm.wellFormed, Asm.arityOk, Asm.rangeOk, Instr.toAsm,
    Instr.operands, Instr.mnemonic, Mnemonic.format, Format.arity, Mnemonic.instr, byte_le_255 t]

end Sys2Proof.Laws.Assembles
end

