-- ==== Sys2Proof/Tests/Slice0.lean ====
section
/-! SUPPORT. The model's own tests: the assembler's checks, one decoded word for every command, one step of every
command with the values of spec 95_test_vectors.md, and for every statement with hypotheses a state and
operands that meet them. -/

namespace Sys2Proof.Tests

open Sys2Proof Sys2Proof.Machine

/-! ## The assembler's checks (30_encoding.md R71, R77) -/

/-- Too few operands: `GF_MUL 0x53`. -/
theorem test_missing_operand_refused : (Asm.mk .gfMul [0x53]).arityOk = false := by decide

/-- Too many operands: `NOP 1`. -/
theorem test_extra_operand_refused : (Asm.mk .nop [1]).wellFormed = false := by decide

/-- An operand over 255: `GF_INV 256`. -/
theorem test_operand_over_255_refused :
    (Asm.mk .gfInv [256]).rangeOk = false ∧ assemble (Asm.mk .gfInv [256]) = none := by decide

/-- The largest operand is accepted: `XP_ENC 255`. -/
theorem test_operand_255_accepted : assemble (Asm.mk .xpEnc [255]) = some (.xpEnc 0xFF) := by decide

/-! ## One word of every command, written out from the table and layout of 30_encoding.md R70, R74 -/

theorem test_decode_nop : decode 0x0000000000000000 = .ok .nop := rfl
theorem test_decode_config : decode 0x0000000000000001 = .ok .config := rfl
theorem test_decode_clracc : decode 0x0000000000000002 = .ok .clracc := rfl
theorem test_decode_map : decode 0x0000000000000008 = .ok .map := rfl
theorem test_decode_range : decode 0x0000000000000009 = .ok .range := rfl
theorem test_decode_alignchk : decode 0x000000000000000A = .ok .alignchk := rfl
theorem test_decode_xpEnc : decode 0x000000000000FF10 = .ok (.xpEnc 0xFF) := rfl
theorem test_decode_xpAcc : decode 0x0000000000000011 = .ok .xpAcc := rfl
theorem test_decode_xpEval : decode 0x0000000000000212 = .ok (.xpEval 0x02) := rfl
theorem test_decode_xpRec : decode 0x0000000000000013 = .ok .xpRec := rfl
theorem test_decode_gfMul : decode 0x0000000000CA5320 = .ok (.gfMul 0x53 0xCA) := rfl
theorem test_decode_gfInv : decode 0x0000000000000321 = .ok (.gfInv 0x03) := rfl
theorem test_decode_r6Pq : decode 0x0000000000000028 = .ok .r6Pq := rfl
theorem test_decode_r6Rec1 : decode 0x0000000000000129 = .ok (.r6Rec1 0x01) := rfl
theorem test_decode_r6Rec2 : decode 0x00000000001D032A = .ok (.r6Rec2 0x03 0x1D) := rfl
theorem test_decode_r6Rec2Src : decode 0x000000000002002B = .ok (.r6Rec2Src 0x00 0x02) := rfl
theorem test_decode_r6Read : decode 0x0000000000001D2C = .ok (.r6Read 0x1D) := rfl

/-- Unassigned opcodes (95_test_vectors.md section 5). -/
theorem test_decode_unassigned :
    decode 0x0000000000000007 = .error (.unassignedOpcode 0x07) ∧
      decode 0x00000000000000FF = .error (.unassignedOpcode 0xFF) := ⟨rfl, rfl⟩

/-- A 1 bit outside the fields of the format (95_test_vectors.md section 5). -/
theorem test_decode_unused_field :
    decode 0x8000000000000000 = .error (.unusedFieldNotZero .nop) ∧
      decode 0x0000000001000321 = .error (.unusedFieldNotZero .gfInv) := ⟨rfl, rfl⟩

/-- The bits of a table row reach the decoder through the bytes of the bus. -/
theorem test_decodeTableWord : decodeTableWord 24 0xCA5320 = some (.gfMul 0x53 0xCA) := by decide +kernel

/-- The first step after reset runs the accepted word: unconfigured, MAP reports NOCFG (STATUS 0x81102). -/
theorem test_first_step_runs_the_word : (match step (State.reset.withFetchWord 64 0x08) with
    | .next t => t.status.word
    | .fault _ | .refused _ => 0) = 0x81102 := rfl

/-! ## One step of every command -/

/-- A block with NMAX = 32, ascending order and its window at 0x1000, configured, with a command pending whose
snapshot has the position and the lanes. -/
def rig (level n : Byte) (sz : BitVec 32) (pos : Word) (lanes : List Byte) : State :=
  { State.reset with
    params := { nmaxIndex := 28, r5DataOrder := .asc, baseBlock := 16 }
    status := { busy := true, done := false, cfgok := true, ovr := false, err := 0, lastop := 0 }
    acfg := { level := level, n := n, s := sz }
    snap := { Snapshot.zero with
      pos := pos
      lanes := { w0 := lanesWord lanes 0, w1 := lanesWord lanes 1, w2 := lanesWord lanes 2
                 w3 := lanesWord lanes 3 } } }

/-- The same block, unconfigured, with the fields in the snapshot's CFG. -/
def rigCfg (level n : Byte) (sz : BitVec 32) : State :=
  { rig 0 0 0 0 [] with
    status := { busy := true, done := false, cfgok := false, ovr := false, err := 0, lastop := 0 }
    snap := { Snapshot.zero with cfg := { level := level, n := n, s := sz } } }

/-- The next state of an outcome. -/
def after (o : Host.Outcome State Fault Refusal) : Option State :=
  match o with
  | .next t => some t
  | .fault _ => none
  | .refused _ => none

/-- ERR and the result registers, as the tables of 95_test_vectors.md list them. -/
def seen (o : Host.Outcome State Fault Refusal) : Option (Byte × List Word) :=
  (after o).map (fun t => (t.status.err, [t.res0, t.res1, t.res2, t.res3, t.res4, t.res5]))

/-- V-CTL-2: NOP sets DONE and keeps CFGOK. -/
theorem test_nop : (after (exec .nop (rig 5 3 2 0 []))).map (·.status.word) = some 0x06 := by decide

/-- V-CTL-1: RAID 1 ignores S, ACFG = 0x201. -/
theorem test_config_raid1 : (after (exec .config (rigCfg 1 2 7))).map (fun t => (t.status.err, t.acfg.word)) =
    some (0x00, 0x201) := by decide

/-- V-CTL-1: RAID 10 needs N even. -/
theorem test_config_odd_raid10 :
    (after (exec .config (rigCfg 0x0A 5 2))).map (fun t => (t.status.err, t.acfg.word, t.status.cfgok)) =
      some (0x01, 0, false) := by decide

/-- V-CTL-2: CLRACC clears NZ and CHK. -/
theorem test_clracc : (after (exec .clracc
    { rig 5 3 2 0 [] with nz := 6, chk := { miss := 0, mcnt := 0, evalid := true, epar := 0 } })).map
      (fun t => (t.nz, t.chk.word)) = some (0, 0) := by decide

/-- V-MAP: RAID 5, N = 3, S = 2, POS 6. -/
theorem test_map_raid5 : seen (exec .map (rig 5 3 2 6 [])) =
    some (0x00, [1, 2, 2, 1, noneWord, 1]) := by decide +kernel

/-- V-MAP: RAID 10, N = 4, S = 2, POS 2^64-1. -/
theorem test_map_raid10_last : seen (exec .map (rig 0x0A 4 2 0xFFFFFFFFFFFFFFFF [])) =
    some (0x00, [9223372036854775807, 2, 9223372036854775807, 3, noneWord, 1]) := by decide +kernel

/-- V-RANGE: the example of R117. -/
theorem test_range : seen (exec .range { rig 5 3 2 0 [] with
    snap := { Snapshot.zero with pos := 2, len := 7 } }) = some (0x00, [0, 2, 3, 4, 0, 0]) := by decide +kernel

/-- V-RANGE: a range that ends past 2^64-1. -/
theorem test_range_past_end : seen (exec .range { rig 6 4 4 0 [] with
    snap := { Snapshot.zero with pos := 0xFFFFFFFFFFFFFFF8, len := 9 } }) =
      some (0x13, [0, 0, 0, 0, 0, 0]) := by decide +kernel

/-- V-ALIGN: RAID 5, N = 3, S = 2, POS 6. -/
theorem test_alignchk_off : (after (exec .alignchk (rig 5 3 2 6 []))).map (·.status.err) = some 0x02 := by decide

/-- V-ALIGN: RAID 5, N = 4, S = 3, POS 9. -/
theorem test_alignchk_on : (after (exec .alignchk (rig 5 4 3 9 []))).map (·.status.err) = some 0x00 := by decide

/-- V-XP-1 row 2: the stale parity lane is ignored. -/
theorem test_xpEnc : seen (exec (.xpEnc 0) (rig 5 3 2 0 [0x77, 0x42, 0x44])) =
    some (0x00, [0x06, 0, 0, 0, 0, 0]) := by decide +kernel

/-- V-XP-3 row 2. -/
theorem test_xpAcc : (after (exec .xpAcc (rig 5 3 2 0 [0x02, 0x00, 0x43]))).map (·.nz) = some 0x5 := by
  decide +kernel

/-- V-XP-3 row 4: disk 1 is missing. -/
theorem test_xpEval : (after (exec (.xpEval 0) { rig 5 3 2 0 [] with
    nz := 0x5, snap := { Snapshot.zero with present := 0x7 } })).map (fun t => (t.status.err, t.chk.word)) =
      some (0x00, 0x10100000002) := by decide +kernel

/-- V-XP-3 row 10: two disks are missing, CHK is written. -/
theorem test_xpEval_two_missing : (after (exec (.xpEval 0) { rig 5 3 2 0 [] with
    nz := 0x1, snap := { Snapshot.zero with present := 0x7 } })).map (fun t => (t.status.err, t.chk.word)) =
      some (0x03, 0x10200000006) := by decide +kernel

/-- V-XP-3 row 6: the stale lane of the missing disk is ignored. -/
theorem test_xpRec : seen (exec .xpRec { rig 5 3 2 0 [0x06, 0x99, 0x44] with
    chk := { miss := 2, mcnt := 1, evalid := true, epar := 0 } }) =
      some (0x00, [0x42, 1, 0, 0, 0, 0]) := by decide +kernel

/-- V-XP-2 row 1: no XP_EVAL before. -/
theorem test_xpRec_sequence : seen (exec .xpRec (rig 5 3 2 0 [])) = some (0x14, [0, 0, 0, 0, 0, 0]) := by
  decide +kernel

/-- V-GF-1: the example of R153. -/
theorem test_gfMul : seen (exec (.gfMul 0x53 0xCA) (rig 0 2 1 0 [])) = some (0x00, [0x8F, 0, 0, 0, 0, 0]) := by
  decide +kernel

/-- V-GF-1: not the AES field. -/
theorem test_gfMul_not_aes : gfmul 0x57 0x83 = 0x31 := by decide +kernel

/-- V-GF-2. -/
theorem test_gfInv : seen (exec (.gfInv 0x53) (rig 0 2 1 0 [])) = some (0x00, [0x8C, 0, 0, 0, 0, 0]) := by
  decide +kernel

/-- V-GF-2: 0 has no inverse, RES0 keeps its value. -/
theorem test_gfInv_zero : seen (exec (.gfInv 0) { rig 0 2 1 0 [] with res0 := 0x77 }) =
    some (0x15, [0x77, 0, 0, 0, 0, 0]) := by decide +kernel

/-- V-R6-2: P and Q of (12, 34, 56). -/
theorem test_r6Pq : seen (exec .r6Pq (rig 6 5 1 0 [0x12, 0x34, 0x56])) =
    some (0x00, [0x70, 0x80, 0, 0, 0, 0]) := by decide +kernel

/-- V-R6-2. -/
theorem test_r6Rec1 : seen (exec (.r6Rec1 2) (rig 6 5 1 0 [0x12, 0x34, 0x00, 0x70, 0x80])) =
    some (0x00, [0x56, 0, 0, 0, 0, 0]) := by decide +kernel

/-- V-R6-1: t = 2 is P. -/
theorem test_r6Rec1_parity_lane : seen (exec (.r6Rec1 2) (rig 6 4 4 0 [0x41, 0x45, 0x04, 0xCB])) =
    some (0x13, [0, 0, 0, 0, 0, 0]) := by decide +kernel

/-- V-R6-2: the solve, swapped. -/
theorem test_r6Rec2 : seen (exec (.r6Rec2 2 0) (rig 6 5 1 0 [0x00, 0x34, 0x00, 0x70, 0x80])) =
    some (0x00, [0x56, 0x12, 0, 0, 0, 0]) := by decide +kernel

/-- V-R6-2: the source's formula. -/
theorem test_r6Rec2Src : seen (exec (.r6Rec2Src 0 2) (rig 6 5 1 0 [0x00, 0x34, 0x00, 0x70, 0x80])) =
    some (0x00, [0x30, 0x30, 0, 0, 0, 0]) := by decide +kernel

/-- V-R6-2: path 2. -/
theorem test_r6Read_solve : seen (exec (.r6Read 2) (rig 6 5 1 0 [0x12, 0x00, 0x00, 0x70, 0x80])) =
    some (0x00, [0x56, 2, 2, 0, 0, 0]) := by decide +kernel

/-- V-R6-2: three zero data lanes. -/
theorem test_r6Read_unrecoverable : seen (exec (.r6Read 0) (rig 6 5 1 0 [0x00, 0x00, 0x00, 0x70, 0x80])) =
    some (0x03, [0, 0, 0, 0, 0, 0]) := by decide +kernel

/-! ## Witnesses: for every statement with hypotheses, and for each of its clauses, values that meet them -/

/-- The block of `rig` at RAID 5 with a schedule and a command word. -/
def rigBus (busy : Bool) (w : Word) (es : List Event) : State :=
  { rig 5 3 2 0 [] with
    status := { busy := busy, done := false, cfgok := true, ovr := true, err := 0, lastop := 0 }
    cw := w
    schedule := es }

/-! ### Encoding and steps -/

theorem witness_EncodeInvertsDecode : ∃ (w : Word) (i : Instr), decode w = .ok i :=
  ⟨0x1D032A, .r6Rec2 3 29, rfl⟩

theorem witness_StepRunsTheDecodedCommand_scheduled : ∃ (s : State) (rest : List Event) (i : Instr),
    EngineHasTurn s rest ∧ s.status.busy = true ∧ decode s.cw = .ok i :=
  ⟨rigBus true 0x13 [.engine, .reset], [.reset], .xpRec, .inl rfl, rfl, rfl⟩

theorem witness_StepRunsTheDecodedCommand_unscheduled : ∃ (s : State) (rest : List Event) (i : Instr),
    EngineHasTurn s rest ∧ s.status.busy = true ∧ decode s.cw = .ok i :=
  ⟨rigBus true 0x13 [], [], .xpRec, .inr ⟨rfl, rfl⟩, rfl, rfl⟩

theorem witness_IllegalWordCompletesWithIllegal_opcode : ∃ (s : State) (rest : List Event),
    EngineHasTurn s rest ∧ s.status.busy = true ∧ ∀ m : Mnemonic, s.cw.extractLsb' 0 8 ≠ m.opcode :=
  ⟨rigBus true 0x2D [], [], .inr ⟨rfl, rfl⟩, rfl, fun m => by cases m <;> decide⟩

theorem witness_IllegalWordCompletesWithIllegal_field : ∃ (s : State) (rest : List Event),
    EngineHasTurn s rest ∧ s.status.busy = true ∧
      ∃ m : Mnemonic, s.cw.extractLsb' 0 8 = m.opcode ∧
        ∃ k, (match m.format with | .f0 => 8 | .ft => 16 | .ftu => 24) ≤ k ∧ s.cw.getLsbD k = true :=
  ⟨rigBus true 0x1CA5320 [.engine], [], .inl rfl, rfl, .gfMul, by decide, 24, by decide, by decide⟩

theorem witness_IdleBlockKeepsItsState : ∃ (s : State) (rest : List Event),
    EngineHasTurn s rest ∧ s.status.busy = false :=
  ⟨rigBus false 0x13 [.engine], [], .inl rfl, rfl⟩

theorem witness_CmdWrite_accepted : ∃ (s : State) (w : Word) (rest : List Event),
    s.schedule = .store s.params.base 8 w :: rest ∧ s.status.busy = false :=
  ⟨rigBus false 0 [.store 0x1000 8 0x13], 0x13, [], rfl, rfl⟩

theorem witness_CmdWrite_dropped : ∃ (s : State) (w : Word) (rest : List Event),
    s.schedule = .store s.params.base 8 w :: rest ∧ s.status.busy = true :=
  ⟨rigBus true 0 [.store 0x1000 8 0x13], 0x13, [], rfl, rfl⟩

theorem witness_CmdWrite_load : ∃ (s : State) (rest : List Event),
    s.schedule = .load s.params.base 8 :: rest :=
  ⟨rigBus false 0 [.load 0x1000 8], [], rfl⟩

theorem witness_StatusWriteClearsOnlyOvr : ∃ (s : State) (v : Word) (rest : List Event),
    s.schedule = .store (s.params.base + 0x08) 8 v :: rest ∧ s.status.ovr = true ∧ v.getLsbD 3 = true :=
  ⟨rigBus false 0 [.store 0x1008 8 0x08], 0x08, [], rfl, rfl, rfl⟩

theorem witness_LoadReturnsTheSlot_first : ∃ (s : State) (off : Nat) (v : Word) (rest : List Event),
    (off, v) ∈ registerTable s ∧ s.schedule = .load (s.params.base + off) 8 :: rest ∧ off = 0x00 :=
  ⟨rigBus false 0 [.load 0x1000 8], 0, 0, [], by simp [registerTable], rfl, rfl⟩

theorem witness_LoadReturnsTheSlot_last : ∃ (s : State) (off : Nat) (v : Word) (rest : List Event),
    (off, v) ∈ registerTable s ∧ s.schedule = .load (s.params.base + off) 8 :: rest ∧ off = 0xF8 :=
  ⟨rigBus false 0 [.load 0x10F8 8], 0xF8, 0, [], by simp [registerTable], rfl, rfl⟩

theorem witness_OperandWrite_registers : ∀ off ∈ [0x10, 0x20, 0x28, 0x30],
    ∃ (s : State) (v : Word) (rest : List Event), s.schedule = .store (s.params.base + off) 8 v :: rest :=
  fun off _ => ⟨rigBus false 0 [.store (0x1000 + off) 8 0xFF], 0xFF, [], rfl⟩

theorem witness_OperandWrite_lanes : ∀ j ∈ [0, 3], ∃ (s : State) (v : Word) (rest : List Event),
    j < 4 ∧ s.schedule = .store (s.params.base + (0x80 + 8 * j)) 8 v :: rest :=
  fun j hj => ⟨rigBus false 0 [.store (0x1000 + (0x80 + 8 * j)) 8 0xFF], 0xFF, [], by
    simp at hj; omega, rfl⟩

theorem witness_ReadOnlyAndReservedWrites : ∀ j ∈ [3, 31], ∃ (s : State) (v : Word) (rest : List Event),
    j < 32 ∧ 8 * j ∉ writableOffsets ∧ s.schedule = .store (s.params.base + 8 * j) 8 v :: rest :=
  fun j hj => ⟨rigBus false 0 [.store (0x1000 + 8 * j) 8 0xFF], 0xFF, [],
    (by decide : ∀ j ∈ [3, 31], j < 32) j hj, (by decide : ∀ j ∈ [3, 31], 8 * j ∉ writableOffsets) j hj, rfl⟩

/-- A one-byte load of the window's last byte, and an 8-byte load that reaches its first. -/
theorem witness_NotAdmittedAccessIsRefused_load : ∀ a ∈ [(0x10FF, 1), (0xFF9, 8)],
    ∃ (s : State) (rest : List Event), 0 < a.2 ∧ s.params.base < a.1 + a.2 ∧ a.1 < s.params.base + 256 ∧
      ¬(a.2 = 8 ∧ ∃ j, j < 32 ∧ a.1 = s.params.base + 8 * j) ∧ s.schedule = .load a.1 a.2 :: rest :=
  fun a ha => ⟨rigBus false 0 [.load a.1 a.2], [], by
    simp only [List.mem_cons, List.mem_nil_iff, or_false] at ha
    rcases ha with rfl | rfl <;>
      exact ⟨by decide, by decide, by decide, by rintro ⟨h, j, hj, hb⟩; revert h hb; simp [rigBus, rig, Params.base]; try omega, rfl⟩⟩

/-- A store that is misaligned, and one that crosses the window's end. -/
theorem witness_NotAdmittedAccessIsRefused_store : ∀ a ∈ [(0x1004, 8), (0x10FC, 8)],
    ∃ (s : State) (v : Word) (rest : List Event), 0 < a.2 ∧ s.params.base < a.1 + a.2 ∧
      a.1 < s.params.base + 256 ∧ ¬(a.2 = 8 ∧ ∃ j, j < 32 ∧ a.1 = s.params.base + 8 * j) ∧
      s.schedule = .store a.1 a.2 v :: rest :=
  fun a ha => ⟨rigBus false 0 [.store a.1 a.2 1], 1, [], by
    simp only [List.mem_cons, List.mem_nil_iff, or_false] at ha
    rcases ha with rfl | rfl <;>
      exact ⟨by decide, by decide, by decide, by rintro ⟨h, j, hj, hb⟩; revert h hb; simp [rigBus, rig, Params.base]; try omega, rfl⟩⟩

theorem witness_ResetClearsTheBlock : ∃ (s : State) (rest rest' : List Event),
    s.schedule = .reset :: rest ∧ rest = .engine :: rest' ∧ s.status.busy = true :=
  ⟨rigBus true 0x13 [.reset, .engine], [.engine], [], rfl, rfl, rfl⟩

/-! ### Every command -/

theorem witness_EveryCommandCompletes_configured : ∃ s : State, LegalCfg s.params.nmax s.acfg :=
  ⟨rig 6 32 1 0 [], by decide, .inr (.inr (.inr (.inr (by decide))))⟩

theorem witness_EveryCommandCompletes_unconfigured : ∃ s : State, s.status.cfgok = false :=
  ⟨rigCfg 0 0 0, rfl⟩

theorem witness_ErrorsArePrecise : ∃ (i : Instr) (s t : State), exec i s = .next t ∧ t.status.err ≠ 0x00 ∧
    i ≠ .config ∧ ¬(i.mnemonic = .xpEval ∧ t.status.err = 0x03) :=
  ⟨.xpRec, rig 5 3 2 0 [], (rig 5 3 2 0 []).complete .sequence, rfl, by decide, by decide, by decide⟩

/-- MAP writes every result register and none of ACFG, NZ and CHK. -/
theorem witness_CommandsWriteOnly_map : ∃ i : Instr, i ≠ .config ∧
    i.mnemonic ∉ [Mnemonic.xpAcc, .clracc, .config] ∧ i.mnemonic ∉ [Mnemonic.xpEval, .clracc, .config] :=
  ⟨.map, by decide, by decide, by decide⟩

/-- NOP writes no result register. -/
theorem witness_CommandsWriteOnly_nop : ∃ i : Instr,
    i.mnemonic ∈ [Mnemonic.nop, .config, .clracc, .alignchk, .xpAcc, .xpEval] ∧
    i.mnemonic ∉ [Mnemonic.map, .range, .xpRec, .r6Pq, .r6Rec2, .r6Rec2Src, .r6Read] ∧
    i.mnemonic ∉ [Mnemonic.map, .range, .r6Read] ∧ i.mnemonic ∉ [Mnemonic.map, .range] ∧ i ≠ .map :=
  ⟨.nop, by decide, by decide, by decide, by decide, by decide⟩

theorem witness_RunningCommandIgnoresLaterWrites : ∃ off : Nat, off ≠ 0x00 ∧ off ≠ 0x08 ∧
    writeSlot off 5 (rig 5 3 2 0 []) ≠ rig 5 3 2 0 [] :=
  ⟨0x20, by decide, by decide, by decide⟩

theorem witness_PendingCommandCompletes : ∃ s : State, s.status.busy = true ∧
    (∀ e ∈ s.schedule, KeepsGoing s.params e) ∧ s.schedule ≠ [] := by
  refine ⟨rigBus true 0x13 [.load 0x1008 8, .store 0x10F8 8 1], rfl, ?_, by decide⟩
  intro e he
  simp only [rigBus, List.mem_cons, List.mem_nil_iff, or_false] at he
  rcases he with rfl | rfl
  · exact ⟨rfl, 1, by decide, rfl⟩
  · exact ⟨rfl, 31, by decide, rfl⟩

theorem witness_UnconfiguredCommandsReportNocfg : ∃ (i : Instr) (s : State),
    i.mnemonic ∉ freeCommands ∧ s.status.cfgok = false :=
  ⟨.alignchk, rigCfg 0 0 0, by decide, rfl⟩

theorem witness_WrongLevelReportsLevel_xp : ∃ (i : Instr) (s : State), s.status.cfgok = true ∧
    i.mnemonic ∈ xpCommands ∧ s.acfg.level ≠ 0x05 :=
  ⟨.xpEval 9, rig 6 4 4 0 [], rfl, by decide, by decide⟩

theorem witness_WrongLevelReportsLevel_r6 : ∃ (i : Instr) (s : State), s.status.cfgok = true ∧
    i.mnemonic ∈ r6Commands ∧ s.acfg.level ≠ 0x06 :=
  ⟨.r6Read 7, rig 5 3 2 0 [], rfl, by decide, by decide⟩

theorem witness_WrongLevelReportsLevel_range : ∃ s : State, s.status.cfgok = true ∧ s.acfg.level = 0x01 :=
  ⟨rig 1 2 0 0 [], rfl, rfl⟩

theorem witness_BadIndexReportsOperand_xp : ∃ (s : State) (t : Byte), ActiveAt s 0x05 ∧
    s.acfg.n.toNat ≤ t.toNat :=
  ⟨rig 5 3 2 0 [], 3, ⟨rfl, rfl⟩, by decide⟩

theorem witness_BadIndexReportsOperand_r6 : ∃ (s : State) (t : Byte), ActiveAt s 0x06 ∧
    s.acfg.n.toNat - 2 ≤ t.toNat :=
  ⟨rig 6 4 4 0 [], 2, ⟨rfl, rfl⟩, by decide⟩

theorem witness_BadIndexReportsOperand_pair : ∃ (s : State) (t o : Byte), ActiveAt s 0x06 ∧
    t.toNat < s.acfg.n.toNat - 2 ∧ t = o :=
  ⟨rig 6 4 4 0 [], 1, 1, ⟨rfl, rfl⟩, by decide, rfl⟩

/-! ### The invariant -/

/-- A word below 2^n has no bit from n on. -/
theorem highBitsZero_of_lt (n : Nat) (w : Word) (h : w.toNat < 2 ^ n) : HighBitsZero n w := by
  intro k hk
  exact Nat.testBit_eq_false_of_lt (h.trans_le (Nat.pow_le_pow_right (by decide) hk))

/-- A block in the midst of a RAID 5 check, and the step that completes its pending XP_REC. -/
theorem witness_EveryStepKeepsTheInvariant : ∃ s t : State, StateInvariant s ∧ step s = .next t := by
  refine ⟨{ rigBus true 0x13 [] with
    present := 7, nz := 5, chk := { miss := 2, mcnt := 1, evalid := true, epar := 0 } }, _, ?_, rfl⟩
  exact {
    configured := fun _ => ⟨by decide, .inr (.inr (.inr (.inl (by decide))))⟩
    raid1NoS := fun h => absurd h (by decide)
    unconfigured := fun h => absurd h (by decide)
    presentHigh := highBitsZero_of_lt _ _ (by decide)
    snapPresentHigh := highBitsZero_of_lt _ _ (by decide)
    nzHigh := highBitsZero_of_lt _ _ (by decide)
    lanesHigh := fun k hk => LaneFile.lane_of_ge _ k hk
    snapLanesHigh := fun k hk => LaneFile.lane_of_ge _ k hk
    busyNotDone := by decide
    busyNoErr := fun _ => rfl
    errKnown := by decide
    chkConsistent := .inr ⟨rfl, ⟨rfl, rfl⟩, by decide, by decide,
      fun k hk => Nat.testBit_eq_false_of_lt (lt_of_lt_of_le (by decide : 2 < 2 ^ 3) (Nat.pow_le_pow_right (by decide) hk)),
      by decide⟩ }

/-! ### Control and mapper -/

theorem witness_ConfigValidatesAndActivates_legal : ∃ s : State, LegalCfg s.params.nmax s.snap.cfg :=
  ⟨rigCfg 6 32 1, by decide, .inr (.inr (.inr (.inr (by decide))))⟩

theorem witness_ConfigValidatesAndActivates_illegal : ∃ s : State, ¬LegalCfg s.params.nmax s.snap.cfg :=
  ⟨rigCfg 6 33 1, fun h => absurd h.1 (by decide)⟩

theorem witness_MapTranslatesAtRaid0 : ∃ s : State, ActiveAt s 0x00 := ⟨rig 0 3 4 13 [], rfl, rfl⟩

theorem witness_MapTranslatesAtRaid1 : ∃ s : State, ActiveAt s 0x01 := ⟨rig 1 2 0 5 [], rfl, rfl⟩

theorem witness_MapTranslatesAtRaid10 : ∃ (s : State) (h sn pr : Nat), ActiveAt s 0x0A ∧
    h = s.acfg.n.toNat / 2 ∧ sn = s.snap.pos.toNat / s.acfg.s.toNat ∧ pr = sn % h :=
  ⟨rig 0x0A 6 3 16 [], 3, 5, 2, ⟨rfl, rfl⟩, rfl, rfl, rfl⟩

theorem witness_MapTranslatesAtRaid5 : ∃ (s : State) (n sz st k b : Nat), ActiveAt s 0x05 ∧
    n = s.acfg.n.toNat ∧ sz = s.acfg.s.toNat ∧ k < n - 1 ∧ b < sz ∧
    s.snap.pos.toNat = (st * (n - 1) + k) * sz + b :=
  ⟨rig 5 3 2 7 [], 3, 2, 1, 1, 1, ⟨rfl, rfl⟩, rfl, rfl, by decide, by decide, rfl⟩

theorem witness_MapTranslatesAtRaid6 : ∃ (s : State) (n sz st k b : Nat), ActiveAt s 0x06 ∧
    n = s.acfg.n.toNat ∧ sz = s.acfg.s.toNat ∧ k < n - 2 ∧ b < sz ∧
    s.snap.pos.toNat = (st * (n - 2) + k) * sz + b :=
  ⟨rig 6 5 2 11 [], 5, 2, 1, 2, 1, ⟨rfl, rfl⟩, rfl, rfl, by decide, by decide, rfl⟩

/-- The smallest array of each level, and RAID 5's d, st, p and k at POS 6 of V-MAP. -/
theorem witness_MapIsInvertible : ∃ (order : R5Order) (sz pos d st p k : Nat), 1 ≤ sz ∧ 2 ≤ 2 ∧ 4 ≤ 4 ∧
    4 % 2 = 0 ∧ 3 ≤ 3 ∧ d = (mapRaid5 order 3 sz pos).disk ∧ st = (mapRaid5 order 3 sz pos).offset / sz ∧
    p = st % 3 ∧ k = (match order with
      | .asc => if d < p then d else d - 1
      | .sym => (d + 3 - p - 1) % 3) :=
  ⟨.sym, 2, 6, 0, 1, 1, 1, by decide⟩

theorem witness_MapResultsAreExact : ∃ (l : Level) (nmax : Nat) (c : Cfg), LegalCfg nmax c ∧ c.level = l.code :=
  ⟨.raid10, 4, { level := 0x0A, n := 4, s := 1 }, ⟨by decide, .inr (.inr (.inl (by decide)))⟩, rfl⟩

theorem witness_Raid5StripeUsesEachDiskOnce : ∃ n p k d : Nat, 3 ≤ n ∧ p < n ∧ k < n - 1 ∧ d < n ∧ d ≠ p :=
  ⟨3, 2, 1, 0, by decide⟩

/-- An empty range at POS 10. -/
theorem witness_RangeGroupsIntoStripes_empty : ∃ (s : State) (g pos len : Nat), s.status.cfgok = true ∧
    pos = s.snap.pos.toNat ∧ len = s.snap.len.toNat ∧ (s.acfg.level = 0x00 ∨ s.acfg.level = 0x0A) ∧
    g = s.acfg.s.toNat ∧ len = 0 :=
  ⟨rig 0 3 4 10 [], 4, 10, 0, rfl, rfl, rfl, .inl rfl, rfl, rfl⟩

/-- A range that ends exactly at 2^64-1. -/
theorem witness_RangeGroupsIntoStripes_fits : ∃ (s : State) (g pos len : Nat), s.status.cfgok = true ∧
    pos = s.snap.pos.toNat ∧ len = s.snap.len.toNat ∧ s.acfg.level = 0x05 ∧
    g = (s.acfg.n.toNat - 1) * s.acfg.s.toNat ∧ 1 ≤ len ∧ pos + len ≤ 2 ^ 64 :=
  ⟨{ rig 5 3 2 0 [] with snap := { Snapshot.zero with pos := 0xFFFFFFFFFFFFFFF8, len := 8 } },
    4, 18446744073709551608, 8, rfl, by decide, by decide, rfl, rfl, by decide, by decide⟩

/-- The same range, one byte longer. -/
theorem witness_RangeGroupsIntoStripes_past : ∃ (s : State) (g pos len : Nat), s.status.cfgok = true ∧
    pos = s.snap.pos.toNat ∧ len = s.snap.len.toNat ∧ s.acfg.level = 0x06 ∧
    g = (s.acfg.n.toNat - 2) * s.acfg.s.toNat ∧ 2 ^ 64 < pos + len ∧ 1 ≤ len :=
  ⟨{ rig 6 4 4 0 [] with snap := { Snapshot.zero with pos := 0xFFFFFFFFFFFFFFF8, len := 9 } },
    8, 18446744073709551608, 9, rfl, by decide, by decide, rfl, rfl, by decide, by decide⟩

/-- V-RANGE: the range that ends exactly at 2^64-1, on the smallest stripe unit. -/
theorem witness_RangeCountsTheStripesTouched_last : ∃ (s : State) (g pos len : Nat), s.status.cfgok = true ∧
    LegalCfg s.params.nmax s.acfg ∧ pos = s.snap.pos.toNat ∧ len = s.snap.len.toNat ∧
    s.acfg.level = 0x00 ∧ g = s.acfg.s.toNat ∧ pos + len = 2 ^ 64 ∧ 1 ≤ len :=
  ⟨{ rig 0 2 1 0 [] with snap := { Snapshot.zero with pos := 1, len := 0xFFFFFFFFFFFFFFFF } },
    1, 1, 18446744073709551615, rfl, ⟨by decide, .inl (by decide)⟩, by decide, by decide, rfl, by decide,
    by decide, by decide⟩

theorem witness_RangeCountsTheStripesTouched_empty : ∃ (s : State) (g pos len : Nat), s.status.cfgok = true ∧
    LegalCfg s.params.nmax s.acfg ∧ pos = s.snap.pos.toNat ∧ len = s.snap.len.toNat ∧
    s.acfg.level = 0x05 ∧ g = (s.acfg.n.toNat - 1) * s.acfg.s.toNat ∧ pos + len ≤ 2 ^ 64 ∧ len = 0 :=
  ⟨rig 5 3 2 4 [], 4, 4, 0, rfl, ⟨by decide, .inr (.inr (.inr (.inl (by decide))))⟩, by decide, by decide, rfl,
    by decide, by decide, rfl⟩

theorem witness_RangeCountsTheStripesTouched_raid6 : ∃ (s : State) (g pos len : Nat), s.status.cfgok = true ∧
    LegalCfg s.params.nmax s.acfg ∧ pos = s.snap.pos.toNat ∧ len = s.snap.len.toNat ∧
    s.acfg.level = 0x06 ∧ g = (s.acfg.n.toNat - 2) * s.acfg.s.toNat ∧ pos + len ≤ 2 ^ 64 ∧ 1 ≤ len :=
  ⟨{ rig 6 5 2 0 [] with snap := { Snapshot.zero with pos := 5, len := 20 } }, 6, 5, 20, rfl,
    ⟨by decide, .inr (.inr (.inr (.inr (by decide))))⟩, by decide, by decide, rfl, by decide, by decide, by decide⟩

theorem witness_AlignchkChecksRaid5Writes_off : ∃ s : State, s.status.cfgok = true ∧ s.acfg.level = 0x05 ∧
    ¬((s.acfg.n.toNat - 1) * s.acfg.s.toNat ∣ s.snap.pos.toNat) :=
  ⟨rig 5 3 2 6 [], rfl, rfl, by decide⟩

theorem witness_AlignchkChecksRaid5Writes_on : ∃ s : State, s.status.cfgok = true ∧ s.acfg.level = 0x05 ∧
    (s.acfg.n.toNat - 1) * s.acfg.s.toNat ∣ s.snap.pos.toNat :=
  ⟨rig 5 3 2 8 [], rfl, rfl, by decide⟩

theorem witness_AlignchkChecksRaid5Writes_level : ∃ s : State, s.status.cfgok = true ∧ s.acfg.level ≠ 0x05 :=
  ⟨rig 0 3 4 3 [], rfl, by decide⟩

/-! ### XOR parity -/

theorem witness_XpEncWritesTheParity : ∃ (s : State) (p : Byte), ActiveAt s 0x05 ∧ p.toNat < s.acfg.n.toNat :=
  ⟨rig 5 3 2 0 [0x12, 0x34], 2, ⟨rfl, rfl⟩, by decide⟩

theorem witness_XpAccAccumulatesNonZeroLanes : ∃ s : State, ActiveAt s 0x05 :=
  ⟨rig 5 3 2 0 [0x02, 0x00, 0x43], rfl, rfl⟩

theorem witness_XpEvalJudgesTheDataBlocks : ∃ (s : State) (p : Byte) (missing : Nat → Bool) (cnt : Nat),
    ActiveAt s 0x05 ∧ p.toNat < s.acfg.n.toNat ∧
    (∀ k, missing k = (decide (k ≠ p.toNat) && (!s.snap.present.getLsbD k || !s.nz.getLsbD k))) ∧
    cnt = ((Finset.range s.acfg.n.toNat).filter (fun k => missing k = true)).card ∧ 2 ≤ cnt :=
  ⟨rig 5 3 2 0 [], 0, fun k => decide (k ≠ 0) && (!(0#64).getLsbD k || !(0#64).getLsbD k), 2, ⟨rfl, rfl⟩,
    by decide, fun _ => rfl, by decide, by decide⟩

theorem witness_XpRecRebuildsOrReports_sequence : ∃ s : State, ActiveAt s 0x05 ∧ s.chk.evalid = false :=
  ⟨rig 5 3 2 0 [], ⟨rfl, rfl⟩, rfl⟩

theorem witness_XpRecRebuildsOrReports_unrecoverable : ∃ s : State, ActiveAt s 0x05 ∧
    s.chk.evalid = true ∧ 2 ≤ s.chk.mcnt.toNat :=
  ⟨{ rig 5 3 2 0 [] with chk := { miss := 6, mcnt := 2, evalid := true, epar := 0 } }, ⟨rfl, rfl⟩, rfl,
    by decide⟩

theorem witness_XpRecRebuildsOrReports_nothing : ∃ s : State, ActiveAt s 0x05 ∧ s.chk.evalid = true ∧
    s.chk.mcnt = 0 :=
  ⟨{ rig 5 3 2 0 [] with chk := { miss := 0, mcnt := 0, evalid := true, epar := 0 } }, ⟨rfl, rfl⟩, rfl, rfl⟩

theorem witness_XpRecRebuildsOrReports_rebuild : ∀ m ∈ [0, 31], ∃ s : State, ActiveAt s 0x05 ∧ m < 32 ∧
    s.chk.evalid = true ∧ s.chk.mcnt = 1 ∧ s.chk.miss = BitVec.twoPow 32 m :=
  fun m hm => ⟨{ rig 5 32 1 0 [] with
    chk := { miss := BitVec.twoPow 32 m, mcnt := 1, evalid := true, epar := 1 } }, ⟨rfl, rfl⟩,
    (by decide : ∀ m ∈ [0, 31], m < 32) m hm, rfl, rfl, rfl⟩

theorem witness_ParityLawsHold : ∃ (n p m : Nat) (e : Nat → Byte), p < n ∧ m < n ∧
    e p = xorOver ((List.range n).filter (· ≠ p)) e ∧ e m ≠ 0 :=
  ⟨3, 0, 2, fun k => [0x02#8, 0x41#8, 0x43#8].getD k 0, by decide, by decide, by decide, by decide⟩

/-- The case {1} of V-EX-R5: disk 1, which held 0x41 and 0x42, is lost. XP_EVAL's snapshot has no column, and
XP_REC runs with the column of offset 1, whose lane 1 is stale. -/
theorem witness_Raid5CheckRebuildsTheLostByte : ∃ (s t v : State) (d : Nat → Byte) (p : Byte) (m : Nat),
    ActiveAt s 0x05 ∧ s.acfg.n.toNat ≤ 32 ∧ p.toNat < s.acfg.n.toNat ∧ m < s.acfg.n.toNat ∧ m ≠ p.toNat ∧
    (∀ k, k < s.acfg.n.toNat → k ≠ p.toNat →
      ((s.snap.present.getLsbD k = true ∧ s.nz.getLsbD k = true) ↔ k ≠ m)) ∧
    exec (.xpEval p) s = .next t ∧ v.status.cfgok = t.status.cfgok ∧ v.acfg = t.acfg ∧ v.chk = t.chk ∧
    d p.toNat = xorOver ((List.range s.acfg.n.toNat).filter (· ≠ p.toNat)) d ∧
    (∀ k, k < s.acfg.n.toNat → k ≠ m → v.lane k = d k) ∧ v.lane m ≠ d m :=
  ⟨{ rig 5 3 2 0 [] with nz := 5, snap := { Snapshot.zero with present := 7 } }, _,
    { rig 5 3 2 0 [0x06, 0x99, 0x44] with chk := { miss := 2, mcnt := 1, evalid := true, epar := 0 } },
    fun k => [0x06#8, 0x42#8, 0x44#8].getD k 0, 0, 1, ⟨rfl, rfl⟩, by decide, by decide, by decide, by decide,
    by decide, rfl, rfl, rfl, by decide, by decide, by decide, by decide⟩

/-! ### GF(256) and RAID 6 -/

theorem witness_FieldLawsHold : ∃ a b : Byte, gfmul a b = 0 ∧ (a = 0 ∨ b = 0) ∧ (1 : Byte) ≠ 0 :=
  ⟨0, 5, by decide +kernel⟩

theorem witness_GfInvWritesTheInverse : ∃ a x : Byte, a ≠ 0 ∧ gfmul a x = 1 :=
  ⟨0xFF, 0xFD, by decide +kernel⟩

theorem witness_R6PqEncodes : ∃ s : State, ActiveAt s 0x06 := ⟨rig 6 5 1 0 [0x12, 0x34, 0x56], rfl, rfl⟩

theorem witness_R6Rec1RebuildsFromP : ∃ (s : State) (t : Byte), ActiveAt s 0x06 ∧
    t.toNat < s.acfg.n.toNat - 2 :=
  ⟨rig 6 4 4 0 [0x41, 0x00, 0x04, 0xCB], 1, ⟨rfl, rfl⟩, by decide⟩

/-- The column of V-R6-1, both data disks erased; x and y are the true bytes. -/
theorem witness_R6Rec2SolvesBothEquations : ∃ (s : State) (t o x y : Byte), ActiveAt s 0x06 ∧
    t.toNat < s.acfg.n.toNat - 2 ∧ o.toNat < s.acfg.n.toNat - 2 ∧ t ≠ o ∧
    x ^^^ y = s.lane (s.acfg.n.toNat - 2) ^^^
      xorOver ((List.range (s.acfg.n.toNat - 2)).filter (fun k => k ≠ t.toNat ∧ k ≠ o.toNat)) s.lane ∧
    gfmul (t + 1) x ^^^ gfmul (o + 1) y = s.lane (s.acfg.n.toNat - 1) ^^^
      xorOver ((List.range (s.acfg.n.toNat - 2)).filter (fun k => k ≠ t.toNat ∧ k ≠ o.toNat))
        (fun k => gfmul (BitVec.ofNat 8 (k + 1)) (s.lane k)) :=
  ⟨rig 6 4 4 0 [0x00, 0x00, 0x04, 0xCB], 0, 1, 0x41, 0x45, ⟨rfl, rfl⟩, by decide +kernel⟩

/-- V-R6-2: the data (12, 34, 56), lanes 0 and 2 erased. -/
theorem witness_R6Rec2RecoversBothBytes : ∃ (s : State) (t o : Byte) (d : Nat → Byte), ActiveAt s 0x06 ∧
    t.toNat < s.acfg.n.toNat - 2 ∧ o.toNat < s.acfg.n.toNat - 2 ∧ t ≠ o ∧ ParityIntact s d ∧
    DataTrueExcept s d [t.toNat, o.toNat] ∧ s.lane t.toNat ≠ d t.toNat :=
  ⟨rig 6 5 1 0 [0x00, 0x34, 0x00, 0x70, 0x80], 2, 0, fun k => [0x12#8, 0x34#8, 0x56#8].getD k 0, ⟨rfl, rfl⟩,
    by decide, by decide, by decide, ⟨by decide +kernel, by decide +kernel⟩,
    (by decide +kernel : ∀ k, k < 3 → k ∉ [2, 0] → _), by decide +kernel⟩

/-- The same equations for the source's formula: b and c of V-R6-2. -/
theorem witness_R6Rec2SrcWritesTheSourceFormula : ∃ (s : State) (t o b c : Byte), ActiveAt s 0x06 ∧
    t.toNat < s.acfg.n.toNat - 2 ∧ o.toNat < s.acfg.n.toNat - 2 ∧ t ≠ o ∧
    b = s.lane (s.acfg.n.toNat - 2) ^^^
      xorOver ((List.range (s.acfg.n.toNat - 2)).filter (fun k => k ≠ t.toNat ∧ k ≠ o.toNat)) s.lane ∧
    c = s.lane (s.acfg.n.toNat - 1) ^^^
      xorOver ((List.range (s.acfg.n.toNat - 2)).filter (fun k => k ≠ t.toNat ∧ k ≠ o.toNat))
        (fun k => gfmul (BitVec.ofNat 8 (k + 1)) (s.lane k)) :=
  ⟨rig 6 4 4 0 [0x00, 0x00, 0x04, 0xCB], 0, 1, 0x04, 0xCB, ⟨rfl, rfl⟩, by decide +kernel⟩

/-- V-R6-1: the data (01, 01), where the source's formula is right. -/
theorem witness_SourceFormulaIsRightOnlyForEqualBytes : ∃ (s : State) (t o : Byte) (d : Nat → Byte),
    ActiveAt s 0x06 ∧ t.toNat < s.acfg.n.toNat - 2 ∧ o.toNat < s.acfg.n.toNat - 2 ∧ t ≠ o ∧ ParityIntact s d ∧
    DataTrueExcept s d [t.toNat, o.toNat] :=
  ⟨rig 6 4 4 0 [0x00, 0x00, 0x00, 0x03], 0, 1, fun _ => 1, ⟨rfl, rfl⟩, by decide, by decide, by decide,
    ⟨by decide +kernel, by decide +kernel⟩, (by decide +kernel : ∀ k, k < 2 → k ∉ [0, 1] → _)⟩

theorem witness_R6ReadTakesTheRightPath_direct : ∃ (s : State) (t : Byte), ActiveAt s 0x06 ∧
    t.toNat < s.acfg.n.toNat - 2 ∧ s.lane t.toNat ≠ 0 :=
  ⟨rig 6 5 1 0 [0x12, 0x34, 0x56], 2, ⟨rfl, rfl⟩, by decide, by decide⟩

theorem witness_R6ReadTakesTheRightPath_rebuild : ∃ (s : State) (t : Byte) (z : Finset Nat), ActiveAt s 0x06 ∧
    t.toNat < s.acfg.n.toNat - 2 ∧ z = (Finset.range (s.acfg.n.toNat - 2)).filter (fun k => s.lane k = 0) ∧
    s.lane t.toNat = 0 ∧ z.card = 1 :=
  ⟨rig 6 5 1 0 [0x12, 0x00, 0x56, 0x70, 0x80], 1, {1}, ⟨rfl, rfl⟩, by decide, by decide, by decide, rfl⟩

theorem witness_R6ReadTakesTheRightPath_solve : ∃ (s : State) (t o : Byte) (z : Finset Nat), ActiveAt s 0x06 ∧
    t.toNat < s.acfg.n.toNat - 2 ∧ z = (Finset.range (s.acfg.n.toNat - 2)).filter (fun k => s.lane k = 0) ∧
    s.lane t.toNat = 0 ∧ z = {t.toNat, o.toNat} ∧ t ≠ o :=
  ⟨rig 6 5 1 0 [0x12, 0x00, 0x00, 0x70, 0x80], 2, 1, {2, 1}, ⟨rfl, rfl⟩, by decide, by decide, by decide, rfl,
    by decide⟩

theorem witness_R6ReadTakesTheRightPath_unrecoverable : ∃ (s : State) (t : Byte) (z : Finset Nat),
    ActiveAt s 0x06 ∧ t.toNat < s.acfg.n.toNat - 2 ∧
    z = (Finset.range (s.acfg.n.toNat - 2)).filter (fun k => s.lane k = 0) ∧ s.lane t.toNat = 0 ∧ 3 ≤ z.card :=
  ⟨rig 6 5 1 0 [0x00, 0x00, 0x00, 0x70, 0x80], 0, {0, 1, 2}, ⟨rfl, rfl⟩, by decide, by decide, by decide,
    by decide⟩

theorem witness_R6ReadReturnsTheTrueByte : ∃ (s : State) (t : Byte) (d : Nat → Byte), ActiveAt s 0x06 ∧
    t.toNat < s.acfg.n.toNat - 2 ∧ ParityIntact s d ∧
    (∀ k, k < s.acfg.n.toNat - 2 → s.lane k ≠ 0 → s.lane k = d k) ∧
    ((Finset.range (s.acfg.n.toNat - 2)).filter (fun k => s.lane k = 0)).card ≤ 2 ∧ s.lane t.toNat = 0 :=
  ⟨rig 6 5 1 0 [0x00, 0x34, 0x00, 0x70, 0x80], 2, fun k => [0x12#8, 0x34#8, 0x56#8].getD k 0, ⟨rfl, rfl⟩,
    by decide, ⟨by decide +kernel, by decide +kernel⟩, by decide, by decide, by decide⟩

end Sys2Proof.Tests
end

/-! # The XOR over a set of disks, bit by bit (R11) -/

namespace Sys2Proof.Proofs.XorParity

open Sys2Proof.Machine

/-- Oddness of a count flips when one more is counted. -/
theorem decide_odd_succ (n : Nat) :
    decide ((n + 1) % 2 = 1) = !decide (n % 2 = 1) := by
  rcases Nat.mod_two_eq_zero_or_one n with h | h <;> simp [Nat.add_mod, h]

/-- Settles O41, by induction on the list: a further disk whose byte has bit i set flips both the
bit of the XOR and the oddness of the count, any other disk leaves both. -/
theorem xorOverCountsParity : Obligations.XorOverCountsParity := by
  intro ks e i
  induction ks with
  | nil => simp
  | cons k ks ih =>
    rw [xorOver_cons, BitVec.getLsbD_xor, ih]
    cases hbit : (e k).getLsbD i with
    | false => rw [Bool.false_xor, List.filter_cons_of_neg (by simp [hbit])]
    | true => rw [Bool.true_xor, List.filter_cons_of_pos (by simp [hbit]), List.length_cons,
        decide_odd_succ]

end Sys2Proof.Proofs.XorParity

/-! # Every command in one form: its checks, its writes and its code

`exec` answers `finish` for every command. Stating that once (`exec_eq_finish`) reduces what holds of all
commands to the list of checks, the writes and the code of each. -/

namespace Sys2Proof.Proofs.Commands

open Sys2Proof.Machine

/-- The checks a command makes, in the order of R201. -/
def checks (i : Instr) (s : State) : List Check :=
  match i with
  | .nop | .config | .clracc | .gfMul _ _ => []
  | .map => needsConfig s :: (if s.level = none then [(false, .level)] else [])
  | .range =>
    [needsConfig s, if stripeUnit s.level s.disks s.stripeSize = none then (false, .level)
      else (rangeFits s.opPos s.opLen, .operand)]
  | .alignchk => [needsConfig s, (aligned s, .alignment)]
  | .xpEnc p | .xpEval p => [needsConfig s, needsLevel s .raid5, (decide (p.toNat < s.disks), .operand)]
  | .xpAcc => [needsConfig s, needsLevel s .raid5]
  | .xpRec => [needsConfig s, needsLevel s .raid5, (s.chk.evalid, .sequence),
      (decide (s.chk.mcnt.toNat < 2), .unrecoverable)]
  | .gfInv a => [(decide (a ≠ 0), .domain)]
  | .r6Pq => [needsConfig s, needsLevel s .raid6]
  | .r6Rec1 t => [needsConfig s, needsLevel s .raid6, (isDataLane s t, .operand)]
  | .r6Rec2 t o | .r6Rec2Src t o =>
    [needsConfig s, needsLevel s .raid6, (areTwoDataLanes s t o, .operand)]
  | .r6Read t => [needsConfig s, needsLevel s .raid6, (isDataLane s t, .operand),
      (decide (s.lane t.toNat ≠ 0) || decide ((zeroLanes s).length ≤ 2), .unrecoverable)]

/-- The state with the writes a command makes where no check fails, before it completes. -/
def writes (i : Instr) (s : State) : State :=
  match i with
  | .nop | .alignchk => s
  | .config =>
    if configOk s.params.nmax s.snap.cfg then s.configure (activeCfg s.snap.cfg) else s.unconfigure
  | .clracc => s.clearChecker
  | .map => match s.level with
    | some l => s.putMapping (mapAt l s.params.r5DataOrder s.disks s.stripeSize s.opPos)
    | none => s
  | .range => match stripeUnit s.level s.disks s.stripeSize with
    | some g => s.putRange g s.opPos s.opLen
    | none => s
  | .xpEnc p => { s with res0 := byteResult (parityWithout s p.toNat) }
  | .xpAcc => { s with nz := s.nz ||| maskOf (nonZeroLanes s) }
  | .xpEval p => { s with chk := Chk.judged p (missingDisks s.disks p.toNat s.snap.present s.nz) }
  | .xpRec => s.putRebuilt
  | .gfMul a b => { s with res0 := byteResult (gfmul a b) }
  | .gfInv a => { s with res0 := byteResult (gfinv a) }
  | .r6Pq => { s with
      res0 := byteResult (pOf s (dataWithout s [])), res1 := byteResult (qOf s (dataWithout s [])) }
  | .r6Rec1 t => { s with res0 := byteResult (rebuildFromP s t.toNat) }
  | .r6Rec2 t o => { s with
      res0 := byteResult (solveT s t.toNat o.toNat)
      res1 := byteResult (solveB s t.toNat o.toNat ^^^ solveT s t.toNat o.toNat) }
  | .r6Rec2Src t o => { s with
      res0 := byteResult (sourceFormula s t.toNat o.toNat)
      res1 := byteResult (sourceFormula s t.toNat o.toNat) }
  | .r6Read t => s.putRead t.toNat

/-- The code a command completes with where no check fails: an error with writes only for CONFIG and
XP_EVAL (R203 (a), (b)). -/
def code (i : Instr) (s : State) : ErrCode :=
  match i with
  | .config => if configOk s.params.nmax s.snap.cfg then .ok else .config
  | .xpEval p =>
    if 2 ≤ (missingDisks s.disks p.toNat s.snap.present s.nz).length then .unrecoverable else .ok
  | _ => .ok

/-- Every command makes its checks and then completes with its writes and its code. -/
theorem exec_eq_finish (i : Instr) (s : State) :
    exec i s = finish (checks i s) s (writes i s) (code i s) := by
  cases i with
  | config =>
    show execConfig s = _
    unfold execConfig writes code checks
    cases configOk s.params.nmax s.snap.cfg <;> rfl
  | map =>
    show execMap s = _
    unfold execMap writes checks
    cases s.level <;> rfl
  | range =>
    show execRange s = _
    unfold execRange writes checks
    cases stripeUnit s.level s.disks s.stripeSize <;> rfl
  | _ => rfl

/-- A command answers a next state: it completes, with its writes or with none. -/
theorem exec_next (i : Instr) (s : State) :
    ∃ e u, exec i s = .next (u.complete e) ∧ (u = s ∨ u = writes i s) := by
  rw [exec_eq_finish]
  exact finish_next _ _ _ _

/-! ## What the writes leave unchanged -/

/-- All that RANGE's writes change. -/
theorem writes_range (s : State) :
    ∃ r0 r1 r2 r3, writes .range s = { s with res0 := r0, res1 := r1, res2 := r2, res3 := r3 } := by
  simp only [writes]
  cases stripeUnit s.level s.disks s.stripeSize with
  | none => exact ⟨_, _, _, _, rfl⟩
  | some g =>
    show ∃ r0 r1 r2 r3, s.putRange g s.opPos s.opLen = _
    unfold State.putRange
    split <;> exact ⟨_, _, _, _, rfl⟩

/-- All that MAP's writes change. -/
theorem writes_map (s : State) : ∃ r0 r1 r2 r3 r4 r5, writes .map s =
    { s with res0 := r0, res1 := r1, res2 := r2, res3 := r3, res4 := r4, res5 := r5 } := by
  simp only [writes]
  cases s.level <;> exact ⟨_, _, _, _, _, _, rfl⟩

/-- All that XP_REC's writes change. -/
theorem writes_xpRec (s : State) : ∃ r0 r1, writes .xpRec s = { s with res0 := r0, res1 := r1 } := by
  show ∃ r0 r1, s.putRebuilt = _
  unfold State.putRebuilt
  split <;> exact ⟨_, _, rfl⟩

/-- All that R6_READ's writes change. -/
theorem writes_r6Read (t : Byte) (s : State) :
    ∃ r0 r1 r2, writes (.r6Read t) s = { s with res0 := r0, res1 := r1, res2 := r2 } := by
  show ∃ r0 r1 r2, s.putRead t.toNat = _
  simp only [State.putRead]
  split
  · exact ⟨_, _, _, rfl⟩
  · split <;> exact ⟨_, _, _, rfl⟩

/-- All that CONFIG's writes change. -/
theorem writes_config (s : State) : ∃ ok a, writes .config s =
    { s.clearChecker with acfg := a, status := { s.status with cfgok := ok } } := by
  simp only [writes]
  split <;> exact ⟨_, _, rfl⟩

/-- u agrees with s on every register the rule of a command does not let it write (R25, R28 to R32). -/
def Frame (i : Instr) (s u : State) : Prop :=
  (u.params = s.params ∧ u.cfg = s.cfg ∧ u.pos = s.pos ∧ u.len = s.len ∧ u.present = s.present ∧
    u.lanes = s.lanes ∧ u.cw = s.cw ∧ u.snap = s.snap ∧ u.schedule = s.schedule ∧ u.rdata = s.rdata) ∧
  (i ≠ .config → u.acfg = s.acfg ∧ u.status.cfgok = s.status.cfgok) ∧
  (i.mnemonic ∉ [Mnemonic.xpAcc, .clracc, .config] → u.nz = s.nz) ∧
  (i.mnemonic ∉ [Mnemonic.xpEval, .clracc, .config] → u.chk = s.chk) ∧
  (i.mnemonic ∈ [Mnemonic.nop, .config, .clracc, .alignchk, .xpAcc, .xpEval] → u.res0 = s.res0) ∧
  (i.mnemonic ∉ [Mnemonic.map, .range, .xpRec, .r6Pq, .r6Rec2, .r6Rec2Src, .r6Read] →
    u.res1 = s.res1) ∧
  (i.mnemonic ∉ [Mnemonic.map, .range, .r6Read] → u.res2 = s.res2) ∧
  (i.mnemonic ∉ [Mnemonic.map, .range] → u.res3 = s.res3) ∧
  (i ≠ .map → u.res4 = s.res4 ∧ u.res5 = s.res5)

/-- A command that makes no write keeps every register. -/
theorem frame_refl (i : Instr) (s : State) : Frame i s s := by simp [Frame]

/-- A command's writes stay within its registers. -/
theorem frame_writes (i : Instr) (s : State) : Frame i s (writes i s) := by
  cases i with
  | config =>
    obtain ⟨ok, a, h⟩ := writes_config s
    simp [Frame, h, Instr.mnemonic]
  | map =>
    obtain ⟨r0, r1, r2, r3, r4, r5, h⟩ := writes_map s
    simp [Frame, h, Instr.mnemonic]
  | range =>
    obtain ⟨r0, r1, r2, r3, h⟩ := writes_range s
    simp [Frame, h, Instr.mnemonic]
  | xpRec =>
    obtain ⟨r0, r1, h⟩ := writes_xpRec s
    simp [Frame, h, Instr.mnemonic]
  | r6Read t =>
    obtain ⟨r0, r1, r2, h⟩ := writes_r6Read t s
    simp [Frame, h, Instr.mnemonic]
  | _ => simp [Frame, writes, Instr.mnemonic]

/-- Completing writes STATUS only, and of it neither CFGOK nor OVR. -/
theorem frame_complete {i : Instr} {s u : State} (e : ErrCode) (h : Frame i s u) :
    Frame i s (u.complete e) := h

/-- A command changes no register its rule does not name. -/
theorem exec_frame (i : Instr) (s : State) : ∃ t, exec i s = .next t ∧ Frame i s t := by
  obtain ⟨e, u, h, rfl | rfl⟩ := exec_next i s
  · exact ⟨_, h, frame_complete e (frame_refl i _)⟩
  · exact ⟨_, h, frame_complete e (frame_writes i s)⟩

/-- Settles O19: a command completes with its writes or with none, and either stays within its frame. -/
theorem commandsWriteOnlyTheirRegisters : Obligations.CommandsWriteOnlyTheirRegisters := exec_frame

/-! ## The codes a command reports -/

/-- Every check of a command raises a code R200 lets it report; MAP's own check of the level is made
in no configured state (log 7). -/
theorem code_of_check (i : Instr) (s : State) (hl : i = .map → s.level ≠ none) :
    ∀ c ∈ checks i s, c.2.code ∈ codesOf i.mnemonic := by
  cases i with
  | map => simp [checks, hl rfl, needsConfig, ErrCode.code, codesOf, Instr.mnemonic]
  | range =>
    simp only [checks]
    split <;> simp [needsConfig, ErrCode.code, codesOf, Instr.mnemonic]
  | _ => simp [checks, needsConfig, needsLevel, ErrCode.code, codesOf, Instr.mnemonic]

/-- Where no check fails, the code is one R200 lets the command report. -/
theorem code_of_success (i : Instr) (s : State) : (code i s).code ∈ codesOf i.mnemonic := by
  cases i with
  | config => simp only [code]; split <;> simp [ErrCode.code, codesOf, Instr.mnemonic]
  | xpEval p => simp only [code]; split <;> simp [ErrCode.code, codesOf, Instr.mnemonic]
  | _ => exact List.mem_cons_self

/-- A legal configuration names one of the five levels (R101). -/
theorem level_of_legalCfg {nmax : Nat} {c : Cfg} (h : LegalCfg nmax c) : Level.ofCode c.level ≠ none := by
  intro hnone
  have hok := (configOk_iff nmax c).mpr h
  simp [configOk, hnone] at hok

/-- A command completes with a code R200 lets it report. -/
theorem exec_code (i : Instr) (s : State) (h : LegalCfg s.params.nmax s.acfg ∨ s.status.cfgok = false) :
    ∃ e u, exec i s = .next (u.complete e) ∧ (u = s ∨ u = writes i s) ∧ e.code ∈ codesOf i.mnemonic := by
  by_cases hmap : i = .map ∧ s.level = none
  · obtain ⟨rfl, hl⟩ := hmap
    have hok : s.status.cfgok = false := h.resolve_left fun hc => level_of_legalCfg hc hl
    refine ⟨.nocfg, s, ?_, .inl rfl, by decide⟩
    rw [exec_eq_finish, checks, needsConfig, hok, finish_cons_false]
  · have hl : i = .map → s.level ≠ none := fun hi hn => hmap ⟨hi, hn⟩
    rw [exec_eq_finish]
    rcases finish_cases (checks i s) s (writes i s) (code i s) with ⟨e, he, heq⟩ | ⟨-, heq⟩
    · exact ⟨e, s, heq, .inl rfl, code_of_check i s hl _ he⟩
    · exact ⟨_, _, heq, .inr rfl, code_of_success i s⟩

/-- Of STATUS, a command's writes change at most CFGOK; the rest is completion's. -/
theorem writes_status (i : Instr) (s : State) :
    (writes i s).status = { s.status with cfgok := (writes i s).status.cfgok } := by
  cases i with
  | config => obtain ⟨ok, a, h⟩ := writes_config s; rw [h]
  | map => obtain ⟨r0, r1, r2, r3, r4, r5, h⟩ := writes_map s; rw [h]
  | range => obtain ⟨r0, r1, r2, r3, h⟩ := writes_range s; rw [h]
  | xpRec => obtain ⟨r0, r1, h⟩ := writes_xpRec s; rw [h]
  | r6Read t => obtain ⟨r0, r1, r2, h⟩ := writes_r6Read t s; rw [h]
  | _ => rfl

/-- Settles O17: completion sets BUSY, DONE, ERR and LASTOP, and neither it nor a command's writes
change OVR or the latch that LASTOP is read from. -/
theorem everyCommandCompletesWithOneOfItsCodes : Obligations.EveryCommandCompletesWithOneOfItsCodes := by
  intro i s h
  obtain ⟨e, u, heq, hu, hcode⟩ := exec_code i s h
  have hkept : u.cw = s.cw ∧ u.status.ovr = s.status.ovr := by
    rcases hu with rfl | rfl
    · exact ⟨rfl, rfl⟩
    · obtain ⟨⟨-, -, -, -, -, -, hcw, -⟩, -⟩ := frame_writes i s
      exact ⟨hcw, by rw [writes_status]⟩
  exact ⟨_, heq, rfl, rfl, congrArg opField hkept.1, hkept.2, hcode⟩

/-! ## A running command does not see the operand registers -/

/-- s with the operand registers of o (R32): the state a host leaves that writes only those. -/
def withOperands (s : State) (o : Snapshot) : State :=
  { s with cfg := o.cfg, pos := o.pos, len := o.len, present := o.present, lanes := o.lanes }

/-- Replacing the operand registers commutes with a choice between two states. -/
theorem withOperands_ite (c : Prop) [Decidable c] (a b : State) (o : Snapshot) :
    withOperands (if c then a else b) o = if c then withOperands a o else withOperands b o :=
  apply_ite (withOperands · o) c a b

/-- A slot's register stands at the slot's offset (R21). -/
theorem offset_of_ofOffset {off : Nat} {r : Reg} (h : Reg.ofOffset off = some r) : r.offset = off := by
  simpa using List.find?_some h

/-- A write to a slot other than CMD and STATUS acts on the operand registers alone: what it stores in them
is a function of them and of the block's parameters. -/
theorem writeSlot_eq_withOperands {off : Nat} (hcmd : off ≠ 0x00) (hstatus : off ≠ 0x08) (v : Word) :
    ∃ f : Params → Snapshot → Snapshot, ∀ s, writeSlot off v s = withOperands s (f s.params s.takeSnap) := by
  unfold writeSlot
  cases hr : Reg.ofOffset off with
  | none => exact ⟨fun _ o => o, fun _ => rfl⟩
  | some r =>
    have hoff := offset_of_ofOffset hr
    cases r with
    | cmd => exact absurd hoff.symm hcmd
    | status => exact absurd hoff.symm hstatus
    | cfg => exact ⟨fun _ o => { o with cfg := Cfg.ofWord v }, fun _ => rfl⟩
    | pos => exact ⟨fun _ o => { o with pos := v }, fun _ => rfl⟩
    | len => exact ⟨fun _ o => { o with len := v }, fun _ => rfl⟩
    | present => exact ⟨fun p o => { o with present := v &&& presentMask p.nmax }, fun _ => rfl⟩
    | lanew j => exact ⟨fun p o => { o with lanes := o.lanes.setReg j (v &&& laneMask p.nmax j) }, fun _ => rfl⟩
    | acfg | nz | chk | res _ => exact ⟨fun _ o => o, fun _ => rfl⟩

/-- A command checks its snapshot, ACFG, NZ and CHK, never an operand register. -/
theorem checks_withOperands (i : Instr) (s : State) (o : Snapshot) :
    checks i (withOperands s o) = checks i s := by
  cases i <;> rfl

/-- A command's code does not depend on the operand registers. -/
theorem code_withOperands (i : Instr) (s : State) (o : Snapshot) :
    code i (withOperands s o) = code i s := by
  cases i <;> rfl

/-- A command's writes neither read nor write the operand registers. -/
theorem writes_withOperands (i : Instr) (s : State) (o : Snapshot) :
    writes i (withOperands s o) = withOperands (writes i s) o := by
  cases i with
  | config =>
    simp only [writes, withOperands_ite]
    rfl
  | map =>
    have hl : (withOperands s o).level = s.level := rfl
    simp only [writes, hl]
    cases s.level <;> rfl
  | range =>
    have hg : stripeUnit (withOperands s o).level (withOperands s o).disks (withOperands s o).stripeSize =
      stripeUnit s.level s.disks s.stripeSize := rfl
    simp only [writes, hg]
    cases stripeUnit s.level s.disks s.stripeSize with
    | none => rfl
    | some g =>
      simp only [State.putRange, withOperands_ite]
      rfl
  | xpRec =>
    simp only [writes, State.putRebuilt, withOperands_ite]
    rfl
  | r6Read t =>
    simp only [writes, State.putRead, withOperands_ite]
    rfl
  | _ => rfl

/-- A command acts in the same way whatever the operand registers hold. -/
theorem exec_withOperands {i : Instr} {s t : State} (o : Snapshot) (h : exec i s = .next t) :
    exec i (withOperands s o) = .next (withOperands t o) := by
  rw [exec_eq_finish] at h ⊢
  rw [checks_withOperands, code_withOperands, writes_withOperands]
  unfold finish at h ⊢
  cases hf : firstFailure (checks i s) <;> rw [hf] at h <;> cases h <;> rfl

/-- Settles O20: the command leaves the parameters and the operand registers as they are, so the host's write
stores the same before it and after it, and the command does not see what was stored. -/
theorem runningCommandIgnoresLaterWrites : Obligations.RunningCommandIgnoresLaterWrites := by
  intro i s off v hcmd hstatus
  obtain ⟨f, hf⟩ := writeSlot_eq_withOperands hcmd hstatus v
  obtain ⟨t, ht, ⟨hparams, hcfg, hpos, hlen, hpresent, hlanes, -⟩, -⟩ := exec_frame i s
  have hsnap : t.takeSnap = s.takeSnap := by simp [State.takeSnap, hcfg, hpos, hlen, hpresent, hlanes]
  refine ⟨t, ht, ?_⟩
  rw [hf s, hf t, hparams, hsnap]
  exact exec_withOperands _ ht

end Sys2Proof.Proofs.Commands

/-! # The register window: what a host access to each slot does -/

namespace Sys2Proof.Proofs.Window

open Sys2Proof.Machine

/-! ## The step at a host access -/

/-- A step takes the first entry of the schedule. -/
theorem step_of_schedule {s : State} {e : Event} {rest : List Event} (h : s.schedule = e :: rest) :
    step s = turn e (s.popped rest) := by
  simp [step, h]

/-- A step whose turn is a host store to slot j is the write action of that slot. -/
theorem step_of_store {s : State} {j : Nat} {v : Word} {rest : List Event} (hj : j < 32)
    (h : s.schedule = .store (s.params.base + 8 * j) 8 v :: rest) :
    step s = .next (writeSlot (8 * j) v (s.popped rest)) :=
  (step_of_schedule h).trans (hostStore_at (s.popped rest) j hj v)

/-- A step whose turn is a host load of slot j returns that slot's value. -/
theorem step_of_load {s : State} {j : Nat} {rest : List Event} (hj : j < 32)
    (h : s.schedule = .load (s.params.base + 8 * j) 8 :: rest) :
    step s = .next { s with schedule := rest, rdata := some (readSlot (8 * j) s) } :=
  (step_of_schedule h).trans (hostLoad_at (s.popped rest) j hj)

/-! ## Loads -/

/-- The spec's register table lists the 32 slots of the window with what a load of each returns (R21). -/
theorem registerTable_eq (s : State) :
    registerTable s = (List.range 32).map (fun j => (8 * j, readSlot (8 * j) s)) := rfl

/-- Settles O11: every entry of the table is a slot of the window with the value a load of it returns. -/
theorem loadReturnsTheSlotAndChangesNothing : Obligations.LoadReturnsTheSlotAndChangesNothing := by
  intro s off v rest hmem hsched
  rw [registerTable_eq, List.mem_map] at hmem
  obtain ⟨j, hj, hentry⟩ := hmem
  cases hentry
  exact step_of_load (List.mem_range.mp hj) hsched

/-- After reset every register reads 0 (R230). -/
theorem readReg_assertReset (r : Reg) (s : State) : readReg r s.assertReset = 0 := by
  cases r with
  | status => exact (by decide : Status.zero.word = 0)
  | cfg | acfg => exact (by decide : Cfg.zero.word = 0)
  | chk => exact (by decide : Chk.zero.word = 0)
  | res i => fin_cases i <;> rfl
  | lanew j => fin_cases j <;> rfl
  | _ => rfl

/-- After reset every slot reads 0: the reserved ones always do (R33). -/
theorem readSlot_assertReset (off : Nat) (s : State) : readSlot off s.assertReset = 0 := by
  unfold readSlot
  cases Reg.ofOffset off with
  | none => rfl
  | some r => exact readReg_assertReset r s

/-- Settles O16: the reset state is one to which the reset input was applied. -/
theorem resetStateReadsZero : Obligations.ResetStateReadsZero := by
  refine ⟨fun p hp => ?_, rfl, rfl, rfl⟩
  rw [registerTable_eq, List.mem_map] at hp
  obtain ⟨j, -, rfl⟩ := hp
  exact readSlot_assertReset (8 * j) State.reset

/-! ## Stores to CMD and STATUS -/

/-- Settles O8: slot 0 is CMD, whose write issues a command and whose read returns 0. -/
theorem cmdWriteIssuesOrIsDropped : Obligations.CmdWriteIssuesOrIsDropped := by
  intro s w rest
  have hstore : s.schedule = .store s.params.base 8 w :: rest → step s = .next ((s.popped rest).issue w) :=
    step_of_store (j := 0) (by decide)
  have hissue := issue_cases (s.popped rest) w
  refine ⟨fun h hb => ?_, fun h hb => ?_, step_of_load (j := 0) (by decide)⟩
  · rw [hstore h, (hissue.resolve_left fun hc => by simp [hb] at hc).2]
    rfl
  · rw [hstore h, (hissue.resolve_right fun hc => by simp [hb] at hc).2]
    rfl

/-- Settles O9: slot 1 is STATUS, and its write action is write-one-to-clear on OVR. -/
theorem statusWriteClearsOnlyOvr : Obligations.StatusWriteClearsOnlyOvr := by
  intro s v rest h
  rw [step_of_store (j := 1) (by decide) h, ← Status.w1c_eq]
  rfl

/-! ## Stores to the operand registers -/

/-- NMAX is at most 32 (R7). -/
theorem nmax_le (p : Params) : p.nmax ≤ 32 := by
  have := p.nmaxIndex.isLt
  unfold Params.nmax
  omega

/-- What a host write of PRESENT stores: the written bits below NMAX. -/
theorem getLsbD_and_presentMask (v : Word) (nmax k : Nat) :
    (v &&& presentMask nmax).getLsbD k = (v.getLsbD k && decide (k < nmax)) := by
  rw [presentMask, BitVec.getLsbD_and, getLsbD_lowMask]
  by_cases hk : k < 64
  · simp [hk]
  · simp [BitVec.getLsbD_of_ge v k (by omega)]

/-- What a host write of LANEW j leaves in each lane: the written byte in the lanes of that register that
exist, 0 in those that do not, and the old byte in every other lane. -/
theorem lane_writeLanew (l : LaneFile) (nmax : Nat) (j : Fin 4) (v : Word) (k : Nat) (hk : k < 32) :
    (l.setReg j (v &&& laneMask nmax j)).lane k =
      if k / 8 = j.val then (if k < nmax then v.extractLsb' (8 * (k % 8)) 8 else 0) else l.lane k := by
  rw [LaneFile.lane_setReg _ _ _ _ hk]
  split
  next hj => exact extractLsb'_and_laneMask nmax j v k hj
  next => rfl

/-- Slot 16 + j is LANEW j. -/
theorem writeSlot_lanew (s : State) (j : Fin 4) (v : Word) :
    writeSlot (8 * (16 + j.val)) v s =
      { s with lanes := s.lanes.setReg j (v &&& laneMask s.params.nmax j) } := by
  fin_cases j <;> rfl

/-- Settles O12, register by register. -/
theorem operandWriteStoresTheLiveBits : Obligations.OperandWriteStoresTheLiveBits := by
  intro s v rest
  refine ⟨step_of_store (j := 2) (by decide), step_of_store (j := 4) (by decide),
    step_of_store (j := 5) (by decide), fun h => ?_, fun j hj h => ?_⟩
  case refine_1 =>
    exact ⟨v &&& presentMask s.params.nmax, step_of_store (j := 6) (by decide) h,
      getLsbD_and_presentMask v s.params.nmax⟩
  case refine_2 =>
    have hslot : 0x80 + 8 * j = 8 * (16 + j) := by omega
    rw [hslot] at h
    refine ⟨_, (step_of_store (by omega) h).trans
      (congrArg _ (writeSlot_lanew (s.popped rest) ⟨j, hj⟩ v)), fun k hk => ?_⟩
    have hbit : k / 8 = j → k % 8 = k - 8 * j := by omega
    rw [lane_writeLanew _ _ _ _ _ hk]
    split
    next hkj => rw [hbit hkj]; rfl
    next => rfl

/-! ## Stores to read-only and reserved slots -/

/-- A register whose slot the table does not list as writable ignores a write (R54). -/
theorem writeReg_of_not_writable {r : Reg} (h : r.offset ∉ writableOffsets) (v : Word) (s : State) :
    writeReg r v s = s := by
  cases r with
  | lanew j => fin_cases j <;> exact absurd (by decide) h
  | acfg | nz | chk | res _ => rfl
  | _ => exact absurd (by decide) h

/-- A slot the table does not list as writable ignores a write (R33, R54). -/
theorem writeSlot_of_not_writable {off : Nat} (h : off ∉ writableOffsets) (v : Word) (s : State) :
    writeSlot off v s = s := by
  unfold writeSlot
  cases hr : Reg.ofOffset off with
  | none => rfl
  | some r =>
    have hoff := Commands.offset_of_ofOffset hr
    exact writeReg_of_not_writable (hoff ▸ h) v s

/-- Settles O13: the write action of such a slot is none. -/
theorem readOnlyAndReservedWritesAreIgnored : Obligations.ReadOnlyAndReservedWritesAreIgnored := by
  intro s j v rest hj hslot h
  rw [step_of_store hj h, writeSlot_of_not_writable hslot]
  rfl

/-! ## The fields of a register -/

/-- A field of a word is read off bit by bit. -/
theorem extractLsb'_eq_of_bits {n len : Nat} {w : BitVec n} {k : Nat} {f : BitVec len}
    (h : ∀ b, b < len → w.getLsbD (k + b) = f.getLsbD b) : w.extractLsb' k len = f := by
  apply BitVec.eq_of_getLsbD_eq
  intro b hb
  rw [BitVec.getLsbD_extractLsb', h b hb]
  simp [hb]

/-- The flags of STATUS (R23). -/
theorem status_word_flags (st : Status) :
    st.word.getLsbD 0 = st.busy ∧ st.word.getLsbD 1 = st.done ∧ st.word.getLsbD 2 = st.cfgok ∧
      st.word.getLsbD 3 = st.ovr := by
  simp only [Status.word, BitVec.getLsbD_append]
  simp

/-- The bits of STATUS above the flags (R23): which field each belongs to, and at which place in it. -/
theorem getLsbD_status_word (st : Status) (k : Nat) (hk : 4 ≤ k) :
    st.word.getLsbD k =
      if k < 8 then false else if k < 16 then st.err.getLsbD (k - 8)
      else if k < 24 then st.lastop.getLsbD (k - 16) else false := by
  have hflags : ¬k < 1 ∧ ¬k - 1 < 1 ∧ ¬k - 1 - 1 < 1 ∧ ¬k - 1 - 1 - 1 < 1 := by omega
  simp only [Status.word, BitVec.getLsbD_append, hflags, if_false]
  grind

/-- The bits of CFG and ACFG (R24). -/
theorem getLsbD_cfg_word (c : Cfg) (k : Nat) :
    c.word.getLsbD k =
      if k < 8 then c.level.getLsbD k else if k < 16 then c.n.getLsbD (k - 8)
      else if k < 32 then false else c.s.getLsbD (k - 32) := by
  simp only [Cfg.word, BitVec.getLsbD_append]
  grind

/-- The bits of CHK (R29). -/
theorem getLsbD_chk_word (c : Chk) (k : Nat) :
    c.word.getLsbD k =
      if k < 32 then c.miss.getLsbD k else if k < 40 then c.mcnt.getLsbD (k - 32)
      else if k = 40 then c.evalid else if k < 48 then false
      else if k < 56 then c.epar.getLsbD (k - 48) else false := by
  simp only [Chk.word, BitVec.getLsbD_append]
  grind

/-- Settles O10: every field and reserved range, from the bits of the three words. -/
theorem registerFieldsStandAtTheirBits : Obligations.RegisterFieldsStandAtTheirBits := by
  intro st c ck
  obtain ⟨hbusy, hdone, hcfgok, hovr⟩ := status_word_flags st
  have hevalid : ck.word.getLsbD 40 = ck.evalid := getLsbD_chk_word ck 40
  refine ⟨⟨hbusy, hdone, hcfgok, hovr, ?_, ?_, ?_, ?_⟩, ⟨?_, ?_, ?_, ?_⟩, ⟨?_, ?_, hevalid, ?_, ?_, ?_⟩⟩
  all_goals
    apply extractLsb'_eq_of_bits
    intro b hb
    grind [getLsbD_status_word, getLsbD_cfg_word, getLsbD_chk_word]

end Sys2Proof.Proofs.Window

/-! # Every step keeps the invariant -/

namespace Sys2Proof.Proofs.Invariant

open Sys2Proof.Machine Sys2Proof.Proofs.Commands Sys2Proof.Proofs.Window

section

variable {s t : State}

/-! ## Cleared registers -/

/-- No bit of 0 is set. -/
theorem highBitsZero_zero (n : Nat) : HighBitsZero n 0 := fun _ _ => BitVec.getLsbD_zero

/-- Every lane of a cleared lane file is 0. -/
theorem highLanesZero_zero (n : Nat) : HighLanesZero n LaneFile.zero := by
  intro k _
  unfold LaneFile.lane
  split <;> simp [LaneFile.zero]

/-- A cleared CHK is consistent. -/
theorem chkConsistent_of_zero (h : s.chk = Chk.zero) : ChkConsistent s := .inl h

/-- Reset makes the invariant hold, whatever the state was (R230). -/
theorem invariant_assertReset (s : State) : StateInvariant s.assertReset where
  configured h := Bool.noConfusion h
  raid1NoS _ := rfl
  unconfigured _ := rfl
  presentHigh := highBitsZero_zero _
  snapPresentHigh := highBitsZero_zero _
  nzHigh := highBitsZero_zero _
  lanesHigh := highLanesZero_zero _
  snapLanesHigh := highLanesZero_zero _
  busyNotDone h := Bool.noConfusion h.1
  busyNoErr _ := rfl
  errKnown := List.mem_cons_self
  chkConsistent := chkConsistent_of_zero rfl

/-! ## Host stores -/

/-- A CMD write keeps the invariant: an acceptance copies operand registers that satisfy it into SNAP and
clears DONE and ERR; a drop sets only OVR (R22, R32). -/
theorem invariant_issue (h : StateInvariant s) (w : Word) : StateInvariant (s.issue w) := by
  rcases issue_cases s w with ⟨-, heq⟩ | ⟨-, heq⟩ <;> rw [heq]
  · exact { h with }
  · exact { h with
      snapPresentHigh := h.presentHigh
      snapLanesHigh := h.lanesHigh
      busyNotDone := fun hb => Bool.noConfusion hb.2
      busyNoErr := fun _ => rfl
      errKnown := List.mem_cons_self }

/-- A write of PRESENT leaves the bits that do not exist at 0 (R27). -/
theorem highBitsZero_and_presentMask (v : Word) (nmax : Nat) : HighBitsZero nmax (v &&& presentMask nmax) := by
  intro k hk
  rw [getLsbD_and_presentMask, decide_eq_false (Nat.not_lt.mpr hk), Bool.and_false]

/-- A write of LANEW j leaves the lanes that do not exist at 0 (R30). -/
theorem highLanesZero_writeLanew {nmax : Nat} {l : LaneFile} (h : HighLanesZero nmax l) (j : Fin 4) (v : Word) :
    HighLanesZero nmax (l.setReg j (v &&& laneMask nmax j)) := by
  intro k hk
  by_cases h32 : k < 32
  · rw [lane_writeLanew l nmax j v k h32, if_neg (Nat.not_lt.mpr hk), h k hk, ite_self]
  · exact LaneFile.lane_of_ge _ k (Nat.not_lt.mp h32)

/-- A host write to a register keeps the invariant (R22 to R31). -/
theorem invariant_writeReg (h : StateInvariant s) (r : Reg) (v : Word) : StateInvariant (writeReg r v s) := by
  cases r with
  | cmd => exact invariant_issue h v
  | status =>
    show StateInvariant { s with status := s.status.w1c v }
    rw [Status.w1c_eq]
    exact { h with }
  | present => exact { h with presentHigh := highBitsZero_and_presentMask v _ }
  | lanew j => exact { h with lanesHigh := highLanesZero_writeLanew h.lanesHigh j v }
  | cfg | pos | len => exact { h with }
  | acfg | nz | chk | res _ => exact h

/-- A host write to a slot keeps the invariant. -/
theorem invariant_writeSlot (h : StateInvariant s) (off : Nat) (v : Word) : StateInvariant (writeSlot off v s) := by
  unfold writeSlot
  cases Reg.ofOffset off with
  | none => exact h
  | some r => exact invariant_writeReg h r v

/-! ## The writes of the commands -/

/-- A legal configuration has at most 32 disks. -/
theorem disks_le (h : StateInvariant s) (hok : s.status.cfgok = true) : s.acfg.n.toNat ≤ 32 :=
  (h.configured hok).1.trans (nmax_le s.params)

/-- ACFG takes a legal configuration with S cleared for RAID 1, which stays legal (R101). -/
theorem legalCfg_activeCfg {nmax : Nat} {c : Cfg} (h : LegalCfg nmax c) : LegalCfg nmax (activeCfg c) := by
  unfold activeCfg
  split
  next h1 =>
    obtain ⟨hn, hlevel⟩ := h
    simp_all [LegalCfg, Level.code]
  next => exact h

/-- CONFIG's writes keep the invariant (R101). -/
theorem invariant_writes_config (h : StateInvariant s) : StateInvariant (writes .config s) := by
  simp only [writes]
  split
  next hlegal =>
    exact { h with
      configured := fun _ => legalCfg_activeCfg ((configOk_iff _ _).mp hlegal)
      raid1NoS := fun h1 => if_pos h1
      unconfigured := fun hno => Bool.noConfusion hno
      nzHigh := highBitsZero_zero _
      chkConsistent := chkConsistent_of_zero rfl }
  next =>
    exact { h with
      configured := fun hok => Bool.noConfusion hok
      raid1NoS := fun _ => rfl
      unconfigured := fun _ => rfl
      nzHigh := highBitsZero_zero _
      chkConsistent := chkConsistent_of_zero rfl }

/-- No lane from N on is non-zero (R131). -/
theorem highBitsZero_nonZeroLanes (s : State) : HighBitsZero s.acfg.n.toNat (maskOf (nonZeroLanes s)) := by
  intro k hk
  by_cases h64 : k < 64
  · rw [getLsbD_maskOf _ _ h64]
    simp [nonZeroLanes, State.disks, Nat.not_lt.mpr hk]
  · exact BitVec.getLsbD_of_ge _ _ (Nat.not_lt.mp h64)

/-- XP_ACC's writes keep the invariant: only bits of lanes below N are added to NZ (R131). -/
theorem invariant_writes_xpAcc (h : StateInvariant s) : StateInvariant (writes .xpAcc s) :=
  { h with
    nzHigh := fun k hk => by
      show (s.nz ||| maskOf (nonZeroLanes s)).getLsbD k = false
      rw [BitVec.getLsbD_or, h.nzHigh k hk, highBitsZero_nonZeroLanes s k hk]
      rfl }

/-- The bits of CHK.MISS are the disks XP_EVAL found missing (R132). -/
theorem getLsbD_judged_miss (p : Byte) (ms : List Nat) (k : Nat) (hk : k < 32) :
    (Chk.judged p ms).miss.getLsbD k = decide (k ∈ ms) := by
  show ((maskOf ms).setWidth 32).getLsbD k = _
  rw [BitVec.getLsbD_setWidth, getLsbD_maskOf ms k (by omega)]
  simp [hk]

/-- No other bit of CHK.MISS is set. -/
theorem judged_miss_of_notMem (p : Byte) {ms : List Nat} {k : Nat} (hk : k ∉ ms) :
    (Chk.judged p ms).miss.getLsbD k = false := by
  by_cases h32 : k < 32
  · rw [getLsbD_judged_miss p ms k h32]
    exact decide_eq_false hk
  · exact BitVec.getLsbD_of_ge _ _ (Nat.not_lt.mp h32)

/-- XP_EVAL judges data disks only: disks of the array other than the parity disk (R132). -/
theorem dataDisk_of_mem_missingDisks {n p k : Nat} {present nz : Word} (h : k ∈ missingDisks n p present nz) :
    k < n ∧ k ≠ p := by
  simp only [missingDisks, mem_diskSet, Bool.and_eq_true, decide_eq_true_eq] at h
  exact ⟨h.1, h.2.1⟩

/-- CHK.MCNT counts the bits of CHK.MISS (R132). -/
theorem judged_mcnt (p : Byte) {ms : List Nat} (hnodup : ms.Nodup) (h32 : ∀ k ∈ ms, k < 32) :
    (Chk.judged p ms).mcnt.toNat =
      ((List.range 32).filter (fun k => (Chk.judged p ms).miss.getLsbD k)).length := by
  have hperm : ((List.range 32).filter (fun k => (Chk.judged p ms).miss.getLsbD k)).Perm ms := by
    rw [List.perm_ext_iff_of_nodup (List.nodup_range.filter _) hnodup]
    intro k
    rw [List.mem_filter, List.mem_range]
    constructor
    · rintro ⟨hk, hmiss⟩
      rw [getLsbD_judged_miss p ms k hk] at hmiss
      exact of_decide_eq_true hmiss
    · intro hk
      refine ⟨h32 k hk, ?_⟩
      rw [getLsbD_judged_miss p ms k (h32 k hk)]
      exact decide_eq_true hk
  have hlen : ms.length ≤ 32 :=
    hperm.length_eq ▸ (List.length_filter_le _ _).trans_eq List.length_range
  rw [hperm.length_eq]
  show (BitVec.ofNat 8 ms.length).toNat = ms.length
  rw [BitVec.toNat_ofNat, Nat.mod_eq_of_lt (by omega)]

/-- XP_EVAL's writes keep the invariant where its checks pass: CHK then holds a judgement of data disks of
the active RAID 5 array (R132). -/
theorem invariant_writes_xpEval (h : StateInvariant s) (p : Byte)
    (hchecks : ∀ c ∈ checks (.xpEval p) s, c.1 = true) : StateInvariant (writes (.xpEval p) s) := by
  have hok : s.status.cfgok = true := hchecks (needsConfig s) (by simp [checks])
  have hlevel : s.acfg.level = 0x05 := by
    have := hchecks (needsLevel s .raid5) (by simp [checks])
    simpa [needsLevel, Level.code] using this
  have hp : p.toNat < s.acfg.n.toNat :=
    of_decide_eq_true (hchecks (decide (p.toNat < s.disks), .operand) (by simp [checks]))
  have hnodup : (missingDisks s.disks p.toNat s.snap.present s.nz).Nodup := List.nodup_range.filter _
  refine { h with chkConsistent := .inr ⟨rfl, ⟨hok, hlevel⟩, hp, ?_, ?_, ?_⟩ }
  · exact judged_miss_of_notMem p fun hmem => (dataDisk_of_mem_missingDisks hmem).2 rfl
  · exact fun k hk => judged_miss_of_notMem p fun hmem =>
      Nat.not_lt.mpr hk (dataDisk_of_mem_missingDisks hmem).1
  · exact judged_mcnt p hnodup fun k hmem =>
      (dataDisk_of_mem_missingDisks hmem).1.trans_le (disks_le h hok)

/-- A command's writes keep the invariant where its checks pass; those to the result registers do so because
the invariant speaks of none of them. -/
theorem invariant_writes (h : StateInvariant s) (i : Instr) (hchecks : ∀ c ∈ checks i s, c.1 = true) :
    StateInvariant (writes i s) := by
  cases i with
  | config => exact invariant_writes_config h
  | clracc => exact { h with nzHigh := highBitsZero_zero _, chkConsistent := chkConsistent_of_zero rfl }
  | xpAcc => exact invariant_writes_xpAcc h
  | xpEval p => exact invariant_writes_xpEval h p hchecks
  | map => obtain ⟨r0, r1, r2, r3, r4, r5, heq⟩ := writes_map s; rw [heq]; exact { h with }
  | range => obtain ⟨r0, r1, r2, r3, heq⟩ := writes_range s; rw [heq]; exact { h with }
  | xpRec => obtain ⟨r0, r1, heq⟩ := writes_xpRec s; rw [heq]; exact { h with }
  | r6Read t => obtain ⟨r0, r1, r2, heq⟩ := writes_r6Read t s; rw [heq]; exact { h with }
  | _ => exact { h with }

/-! ## The turns -/

/-- Every error's code is one of R200. -/
theorem code_mem_reportedCodes (e : ErrCode) : e.code ∈ reportedCodes := by
  cases e <;> decide

/-- Completing keeps the invariant: BUSY is 0 then, and ERR is a code of R200. -/
theorem invariant_complete (h : StateInvariant s) (e : ErrCode) : StateInvariant (s.complete e) :=
  { h with
    busyNotDone := fun hb => Bool.noConfusion hb.1
    busyNoErr := fun hb => Bool.noConfusion hb
    errKnown := code_mem_reportedCodes e }

/-- A command keeps the invariant: it completes with no write, or with its writes after its checks passed. -/
theorem invariant_exec (h : StateInvariant s) (i : Instr) (ht : exec i s = .next t) : StateInvariant t := by
  rw [exec_eq_finish] at ht
  rcases finish_cases (checks i s) s (writes i s) (code i s) with ⟨e, -, heq⟩ | ⟨hchecks, heq⟩
  · cases heq.symm.trans ht
    exact invariant_complete h e
  · cases heq.symm.trans ht
    exact invariant_complete (invariant_writes h i hchecks) _

/-- The engine's turn keeps the invariant (R234, R75). -/
theorem invariant_engineTurn (h : StateInvariant s) (ht : engineTurn s = .next t) : StateInvariant t := by
  rcases engineTurn_cases s with ⟨-, heq⟩ | ⟨-, i, -, heq⟩ | ⟨-, -, heq⟩
  · cases heq.symm.trans ht
    exact h
  · exact invariant_exec h i (heq.symm.trans ht)
  · cases heq.symm.trans ht
    exact invariant_complete h .illegal

/-- A host load has a next state only where the block admits it, and then writes no register (R51). -/
theorem hostLoad_next {addr width : Nat} (ht : hostLoad addr width s = .next t) :
    ∃ v, t = { s with rdata := some v } := by
  unfold hostLoad at ht
  split at ht
  · cases ht
    exact ⟨_, rfl⟩
  · unfold notAdmitted at ht
    split at ht <;> cases ht

/-- A host store has a next state only where the block admits it, and then is the slot's write action (R51). -/
theorem hostStore_next {addr width : Nat} {v : Word} (ht : hostStore addr width v s = .next t) :
    ∃ off, t = writeSlot off v s := by
  unfold hostStore at ht
  split at ht
  · cases ht
    exact ⟨_, rfl⟩
  · unfold notAdmitted at ht
    split at ht <;> cases ht

/-- Every agent's turn keeps the invariant. -/
theorem invariant_turn (h : StateInvariant s) (e : Event) (ht : turn e s = .next t) : StateInvariant t := by
  cases e with
  | load addr width =>
    obtain ⟨v, rfl⟩ := hostLoad_next ht
    exact { h with }
  | store addr width v =>
    obtain ⟨off, rfl⟩ := hostStore_next ht
    exact invariant_writeSlot h off v
  | engine => exact invariant_engineTurn h ht
  | reset =>
    cases ht
    exact invariant_assertReset s

end

/-- Settles O26: a step is the turn of the schedule's first entry, or the engine's where there is none. -/
theorem everyStepKeepsTheInvariant : Obligations.EveryStepKeepsTheInvariant := by
  intro s t h ht
  rcases step_cases s with ⟨-, heq⟩ | ⟨e, rest, -, heq⟩
  · exact invariant_engineTurn h (heq.symm.trans ht)
  · have hpopped : StateInvariant (s.popped rest) := { h with }
    exact invariant_turn hpopped e (heq.symm.trans ht)

end Sys2Proof.Proofs.Invariant

/-! # Host accesses the block does not admit (R51) -/

namespace Sys2Proof.Proofs.Refusals

open Sys2Proof.Machine Sys2Proof.Proofs.Window

/-- An access has a byte in the window when it is not empty and overlaps the 256 bytes from RAU_BASE (R50). -/
theorem touchesWindow_iff (p : Params) (addr width : Nat) :
    touchesWindow p addr width = true ↔ 0 < width ∧ p.base < addr + width ∧ addr < p.base + 256 := by
  simp [touchesWindow, and_assoc]

/-- An access with a byte in the window that is not admitted is refused, and is no fault (log 4). -/
theorem notAdmitted_of_touchesWindow {p : Params} {addr width : Nat} (h : touchesWindow p addr width = true) :
    notAdmitted p addr width = .refused (.badAccess addr width) :=
  if_pos h

/-- A host load that is not admitted reads no slot. -/
theorem hostLoad_of_not_admitted {s : State} {addr width : Nat} (h : ¬admitted s.params addr width = true) :
    hostLoad addr width s = notAdmitted s.params addr width :=
  if_neg h

/-- A host store that is not admitted has no write action. -/
theorem hostStore_of_not_admitted {s : State} {addr width : Nat} (h : ¬admitted s.params addr width = true)
    (v : Word) : hostStore addr width v s = notAdmitted s.params addr width :=
  if_neg h

/-- Settles O14: the statement's conditions are the model's two tests, and taking the access off the schedule
leaves the parameters that these read. -/
theorem notAdmittedAccessIsRefused : Obligations.NotAdmittedAccessIsRefused := by
  intro s addr width v rest hwidth hlow hhigh hbad
  have hnot : ¬admitted (s.popped rest).params addr width = true := mt (admitted_iff _ _ _).mp hbad
  have hrefused : notAdmitted s.params addr width = .refused (.badAccess addr width) :=
    notAdmitted_of_touchesWindow ((touchesWindow_iff _ _ _).mpr ⟨hwidth, hlow, hhigh⟩)
  constructor
  · intro hs
    calc step s = hostLoad addr width (s.popped rest) := step_of_schedule hs
      _ = notAdmitted s.params addr width := hostLoad_of_not_admitted hnot
      _ = .refused (.badAccess addr width) := hrefused
  · intro hs
    calc step s = hostStore addr width v (s.popped rest) := step_of_schedule hs
      _ = notAdmitted s.params addr width := hostStore_of_not_admitted hnot v
      _ = .refused (.badAccess addr width) := hrefused

end Sys2Proof.Proofs.Refusals

/-! # The encoding: words, fields and commands (30_encoding.md R70 to R75) -/

namespace Sys2Proof.Proofs.Encoding

open Sys2Proof.Machine Sys2Proof.Laws Sys2Proof.Proofs.Commands Sys2Proof.Proofs.Window

/-! ## Names, opcodes and operands -/

/-- A byte names the command whose opcode it is, and no other. -/
theorem ofOpcode_eq_some {op : Byte} {m : Mnemonic} : Mnemonic.ofOpcode op = some m ↔ op = m.opcode := by
  constructor
  · intro h
    have hop : m.opcode = op := by simpa using List.find?_some h
    exact hop.symm
  · rintro rfl
    cases m <;> decide

/-- The opcode table gives every command another opcode (R74). -/
theorem opcode_injective {m m' : Mnemonic} (h : m.opcode = m'.opcode) : m = m' := by
  have hsome : some m = some m' :=
    calc some m = Mnemonic.ofOpcode m.opcode := (ofOpcode_eq_some.mpr rfl).symm
      _ = some m' := ofOpcode_eq_some.mpr h
  exact Option.some.inj hsome

/-- The command made of a name has that name. -/
@[simp] theorem mnemonic_instr (m : Mnemonic) (t u : Byte) : (m.instr t u).mnemonic = m := by
  cases m <;> rfl

/-- A format without T drops the first operand. -/
theorem t_instr (m : Mnemonic) (t u : Byte) : (m.instr t u).t = if m.format = .f0 then 0 else t := by
  cases m <;> rfl

/-- A format without U drops the second operand. -/
theorem u_instr (m : Mnemonic) (t u : Byte) : (m.instr t u).u = if m.format = .ftu then u else 0 := by
  cases m <;> rfl

/-- A command is its name and its operands. -/
theorem instr_operands (i : Instr) : i.mnemonic.instr i.t i.u = i := by
  cases i <;> rfl

/-- A command of format F0 has T = 0. -/
theorem t_eq_zero {i : Instr} (h : i.mnemonic.format = .f0) : i.t = 0 := by
  rw [← instr_operands i, t_instr, if_pos h]

/-- A command of format F0 or FT has U = 0. -/
theorem u_eq_zero {i : Instr} (h : i.mnemonic.format ≠ .ftu) : i.u = 0 := by
  rw [← instr_operands i, u_instr, if_neg h]

/-! ## Mask and match, as fields -/

/-- The number of low bits a format's fields take up: OP, OP and T, or OP, T and U (R70, R71). -/
def usedBits : Format → Nat
  | .f0 => 8
  | .ft => 16
  | .ftu => 24

/-- The word has the command's opcode in OP and no 1 bit outside the fields of its format: what R75 asks
of a legal word. -/
def HasShape (m : Mnemonic) (w : Word) : Prop :=
  opField w = m.opcode ∧ ∀ k, usedBits m.format ≤ k → w.getLsbD k = false

/-- A format compares OP and every bit past its fields (R71, column "mask"). -/
theorem getLsbD_mask (f : Format) : ∀ k < 64, f.mask.getLsbD k = decide (k < 8 ∨ usedBits f ≤ k) := by
  cases f <;> decide

/-- A format's fields hold OP at least. -/
theorem eight_le_usedBits (f : Format) : 8 ≤ usedBits f := by cases f <;> decide

/-- The bits of OP are the low bits of the word. -/
theorem getLsbD_opField (w : Word) {k : Nat} (hk : k < 8) : (opField w).getLsbD k = w.getLsbD k := by
  simp [opField, hk]

/-- Meeting mask and match (R71) is having the shape R75 asks for. -/
theorem mask_match_iff (w : Word) (m : Mnemonic) :
    w &&& m.format.mask = m.matchWord ↔ HasShape m w := by
  have hused := eight_le_usedBits m.format
  constructor
  · intro h
    have hbit : ∀ k < 64, k < 8 ∨ usedBits m.format ≤ k → w.getLsbD k = m.opcode.getLsbD k := by
      intro k hk hcompared
      have hword : (w &&& m.format.mask).getLsbD k = m.matchWord.getLsbD k := by rw [h]
      simpa only [BitVec.getLsbD_and, getLsbD_mask _ k hk, hcompared, Mnemonic.matchWord,
        BitVec.getLsbD_setWidth, hk, decide_true, Bool.and_true, Bool.true_and] using hword
    refine ⟨BitVec.eq_of_getLsbD_eq fun k hk => ?_, fun k hk => ?_⟩
    · rw [getLsbD_opField w hk, hbit k (by omega) (.inl hk)]
    · rcases Nat.lt_or_ge k 64 with h64 | h64
      · rw [hbit k h64 (.inr hk), BitVec.getLsbD_of_ge _ _ (by omega)]
      · exact BitVec.getLsbD_of_ge _ _ h64
  · rintro ⟨hop, hrest⟩
    refine BitVec.eq_of_getLsbD_eq fun k hk => ?_
    rw [BitVec.getLsbD_and, getLsbD_mask _ k hk, Mnemonic.matchWord, BitVec.getLsbD_setWidth, ← hop]
    rcases Nat.lt_or_ge k 8 with h8 | h8
    · rw [getLsbD_opField w h8]
      simp [h8, hk]
    · have hzero : (opField w).getLsbD k = false := BitVec.getLsbD_of_ge _ _ h8
      by_cases hk' : usedBits m.format ≤ k
      · simp [hrest k hk', hzero]
      · simp [hzero, hk', show ¬k < 8 by omega]

/-! ## Decoding and encoding -/

/-- What the decoder accepts: a word of some command's shape, as that command with the word's operands. -/
theorem decode_eq_ok {w : Word} {i : Instr} :
    decode w = .ok i ↔ ∃ m, HasShape m w ∧ m.instr (tField w) (uField w) = i := by
  constructor
  · intro h
    unfold decode at h
    split at h
    · cases h
    next m _ =>
      split at h
      next hmask => exact ⟨m, (mask_match_iff w m).mp hmask, Except.ok.inj h⟩
      · cases h
  · rintro ⟨m, hshape, rfl⟩
    simp only [decode, ofOpcode_eq_some.mpr hshape.1, if_pos ((mask_match_iff w m).mpr hshape)]

/-- The word of a command has the command's shape: operands its format does not use are 0. -/
theorem hasShape_encode (i : Instr) : HasShape i.mnemonic (encode i) := by
  refine ⟨opField_enc _ _ _, fun k hk => ?_⟩
  rcases Nat.lt_or_ge k 64 with h64 | h64
  · have hop : i.mnemonic.opcode.getLsbD k = false :=
      BitVec.getLsbD_of_ge _ _ ((eight_le_usedBits _).trans hk)
    rw [encode, getLsbD_enc _ _ _ k h64, hop]
    cases hf : i.mnemonic.format with
    | f0 => simp [t_eq_zero hf, u_eq_zero (i := i) (by simp [hf])]
    | ft =>
      have ht : i.t.getLsbD (k - 8) = false := BitVec.getLsbD_of_ge _ _ (by simp [hf, usedBits] at hk; omega)
      simp [ht, u_eq_zero (i := i) (by simp [hf])]
    | ftu =>
      have h24 : 24 ≤ k := by simpa [hf, usedBits] using hk
      have ht : i.t.getLsbD (k - 8) = false := BitVec.getLsbD_of_ge _ _ (by omega)
      have hu : i.u.getLsbD (k - 16) = false := BitVec.getLsbD_of_ge _ _ (by omega)
      simp [ht, hu]
  · exact BitVec.getLsbD_of_ge _ _ h64

/-- The decoder undoes the encoder. -/
theorem decode_encode (i : Instr) : decode (encode i) = .ok i := by
  have hfields : i.mnemonic.instr (tField (encode i)) (uField (encode i)) = i := by
    rw [encode, tField_enc, uField_enc, instr_operands]
  exact decode_eq_ok.mpr ⟨i.mnemonic, hasShape_encode i, hfields⟩

/-- Settles O1: the word of a command has its shape and holds its operands. -/
theorem decodeInvertsEncode : Obligations.DecodeInvertsEncode := decode_encode

/-- A field that lies where all bits of a word are 0 is 0. -/
theorem extractLsb'_eq_zero {w : Word} {n : Nat} (h : ∀ k, n ≤ k → w.getLsbD k = false) :
    w.extractLsb' n 8 = 0 := by
  refine BitVec.eq_of_getLsbD_eq fun k _ => ?_
  simp [h (n + k) (by omega)]

/-- A word with no 1 bit past U is the word of its three fields (R70, R73). -/
theorem enc_fields {w : Word} (h : ∀ k, 24 ≤ k → w.getLsbD k = false) :
    enc (opField w) (tField w) (uField w) = w := by
  refine BitVec.eq_of_getLsbD_eq fun k hk => ?_
  rw [getLsbD_enc _ _ _ k hk]
  simp only [opField, tField, uField, BitVec.getLsbD_extractLsb']
  rcases Nat.lt_or_ge k 8 with h8 | h8
  · simp [h8, show ¬8 ≤ k by omega, show ¬16 ≤ k by omega]
  rcases Nat.lt_or_ge k 16 with h16 | h16
  · simp [h8, show ¬k < 8 by omega, show k - 8 < 8 by omega, show ¬16 ≤ k by omega,
      Nat.add_sub_cancel' h8]
  rcases Nat.lt_or_ge k 24 with h24 | h24
  · simp [h16, show ¬k < 8 by omega, show ¬k - 8 < 8 by omega, show k - 16 < 8 by omega,
      Nat.add_sub_cancel' h16]
  · simp [h k h24, show ¬k < 8 by omega, show ¬k - 8 < 8 by omega, show ¬k - 16 < 8 by omega]

/-- A word of a command's shape is the word of that command with the word's operands: the fields its format
drops are 0 in the word already. -/
theorem encode_instr_of_hasShape {m : Mnemonic} {w : Word} (h : HasShape m w) :
    encode (m.instr (tField w) (uField w)) = w := by
  obtain ⟨hop, hrest⟩ := h
  have ht : (m.instr (tField w) (uField w)).t = tField w := by
    rw [t_instr, ite_eq_right_iff]
    intro hf
    exact (extractLsb'_eq_zero fun k hk => hrest k (by simpa [hf, usedBits] using hk)).symm
  have hu : (m.instr (tField w) (uField w)).u = uField w := by
    rw [u_instr, ite_eq_left_iff]
    intro hf
    have h16 : usedBits m.format ≤ 16 := by cases hm : m.format <;> simp_all [usedBits]
    exact (extractLsb'_eq_zero fun k hk => hrest k (h16.trans hk)).symm
  have h24 : usedBits m.format ≤ 24 := by cases m.format <;> decide
  rw [encode, mnemonic_instr, ht, hu, ← hop]
  exact enc_fields fun k hk => hrest k (h24.trans hk)

/-- Settles O2: a word the decoder accepts has the shape of the command it selects. -/
theorem encodeInvertsDecode : Obligations.EncodeInvertsDecode := by
  intro w i h
  obtain ⟨m, hshape, rfl⟩ := decode_eq_ok.mp h
  exact encode_instr_of_hasShape hshape

/-- A word selects a command of a name exactly when it has the name's shape. -/
theorem decode_selects_iff (w : Word) (m : Mnemonic) :
    (∃ i, decode w = .ok i ∧ i.mnemonic = m) ↔ HasShape m w := by
  constructor
  · rintro ⟨i, hdecode, rfl⟩
    obtain ⟨m, hshape, rfl⟩ := decode_eq_ok.mp hdecode
    rwa [mnemonic_instr]
  · intro hshape
    exact ⟨_, decode_eq_ok.mpr ⟨m, hshape, rfl⟩, mnemonic_instr _ _ _⟩

/-- Settles O3: the mask of a format is the value R71 writes out for it. -/
theorem wordSelectsCommandByMaskAndMatch : Obligations.WordSelectsCommandByMaskAndMatch := by
  intro w m
  exact (decode_selects_iff w m).trans (mask_match_iff w m).symm

/-- Settles O4: the legal words are those the encoder gives; the others fail the decoder's tests. -/
theorem wordsOfTheTableDecode : Obligations.WordsOfTheTableDecode :=
  ⟨decode_encode .nop, decode_encode .config, decode_encode .range, decode_encode (.xpEval 2),
    decode_encode (.gfMul 0x53 0xCA), decode_encode (.gfInv 0x03), decode_encode (.r6Rec2 3 29),
    rfl, rfl, rfl, rfl⟩

/-! ## Illegal words -/

/-- A step at the engine's turn is the engine's turn, taken from the schedule. -/
theorem step_of_engineHasTurn {s : State} {rest : List Event} (h : EngineHasTurn s rest) :
    step s = engineTurn (s.popped rest) := by
  rcases h with hs | ⟨hs, rfl⟩
  · exact step_of_schedule hs
  · have hpopped : s.popped [] = s := by rw [State.popped, ← hs]
    rw [hpopped, step, hs]

/-- A pending word that has no command's shape completes with ILLEGAL (R75). -/
theorem engineTurn_of_no_shape {s : State} (hbusy : s.status.busy = true) (h : ∀ m, ¬HasShape m s.cw) :
    engineTurn s = .next (s.complete .illegal) := by
  rcases engineTurn_cases s with ⟨hidle, -⟩ | ⟨-, i, hdecode, -⟩ | ⟨-, -, heq⟩
  · rw [hbusy] at hidle
    cases hidle
  · obtain ⟨m, hshape, -⟩ := decode_eq_ok.mp hdecode
    exact absurd hshape (h m)
  · exact heq

/-- Settles O6: with an unassigned opcode, or a 1 bit outside the fields of the one command that has the
opcode, the word has no command's shape. -/
theorem illegalWordCompletesWithIllegal : Obligations.IllegalWordCompletesWithIllegal := by
  intro s rest hturn hbusy hillegal
  have hnone : ∀ m, ¬HasShape m s.cw := by
    rintro m ⟨hop, hrest⟩
    rcases hillegal with hunassigned | ⟨m', hop', k, hk, hbit⟩
    · exact hunassigned m hop
    · obtain rfl : m' = m := opcode_injective (hop'.symm.trans hop)
      have hzero : s.cw.getLsbD k = false := hrest k hk
      rw [hbit] at hzero
      cases hzero
  calc step s = engineTurn (s.popped rest) := step_of_engineHasTurn hturn
    _ = .next ((s.popped rest).complete .illegal) := engineTurn_of_no_shape hbusy hnone

/-! ## The level check (R201, check 3) -/

/-- An XP_ command checks for a configuration, then for RAID 5, then the rest. -/
theorem checks_of_mem_xpCommands {i : Instr} (h : i.mnemonic ∈ xpCommands) (s : State) :
    ∃ rest, checks i s = needsConfig s :: needsLevel s .raid5 :: rest := by
  cases i with
  | xpEnc _ | xpAcc | xpEval _ | xpRec => exact ⟨_, rfl⟩
  | _ => simp [xpCommands, Instr.mnemonic] at h

/-- An R6_ command checks for a configuration, then for RAID 6, then the rest. -/
theorem checks_of_mem_r6Commands {i : Instr} (h : i.mnemonic ∈ r6Commands) (s : State) :
    ∃ rest, checks i s = needsConfig s :: needsLevel s .raid6 :: rest := by
  cases i with
  | r6Pq | r6Rec1 _ | r6Rec2 _ _ | r6Rec2Src _ _ | r6Read _ => exact ⟨_, rfl⟩
  | _ => simp [r6Commands, Instr.mnemonic] at h

/-- At RAID 1 RANGE has no stripe unit, and its check of the level fails. -/
theorem checks_range_of_raid1 {s : State} (h : s.acfg.level = 0x01) :
    checks .range s = [needsConfig s, (false, .level)] := by
  have hlevel : s.level = some .raid1 := (Level.ofCode_eq_some _ _).mpr h
  simp [checks, hlevel, stripeUnit]

/-- At another level than the one it needs, a command's level check fails. -/
theorem needsLevel_of_ne {s : State} {l : Level} (h : s.acfg.level ≠ l.code) :
    needsLevel s l = (false, .level) := by
  simp [needsLevel, h]

/-- On a configured block, a command whose second check is a level check that fails reports LEVEL. -/
theorem exec_of_level_fails {i : Instr} {s : State} {rest : List Check} (hok : s.status.cfgok = true)
    (h : checks i s = needsConfig s :: (false, .level) :: rest) :
    exec i s = .next (s.completedWith 0x12) := by
  rw [exec_eq_finish, h, needsConfig, hok, finish_cons_true, finish_cons_false,
    State.complete_eq_completedWith]
  rfl

/-- Settles O23: the level check stands before every check of an operand. -/
theorem wrongLevelReportsLevel : Obligations.WrongLevelReportsLevel := by
  intro i s hok hwrong
  rcases hwrong with ⟨hxp, hlevel⟩ | ⟨hr6, hlevel⟩ | ⟨rfl, hlevel⟩
  · obtain ⟨rest, hchecks⟩ := checks_of_mem_xpCommands hxp s
    exact exec_of_level_fails hok (hchecks.trans (by rw [needsLevel_of_ne hlevel]))
  · obtain ⟨rest, hchecks⟩ := checks_of_mem_r6Commands hr6 s
    exact exec_of_level_fails hok (hchecks.trans (by rw [needsLevel_of_ne hlevel]))
  · exact exec_of_level_fails hok (checks_range_of_raid1 hlevel)

end Sys2Proof.Proofs.Encoding

/-! # The control commands and the check for a configuration (40_control.md) -/

namespace Sys2Proof.Proofs.Control

open Sys2Proof.Machine Sys2Proof.Proofs.Commands

/-! ## The check for a configuration (R103; R201, check 2) -/

/-- A command that is not free checks for a configuration before all else. -/
theorem checks_of_not_free {i : Instr} (h : i.mnemonic ∉ freeCommands) (s : State) :
    ∃ rest, checks i s = needsConfig s :: rest := by
  cases i with
  | nop | config | clracc | gfMul _ _ | gfInv _ => simp [freeCommands, Instr.mnemonic] at h
  | _ => exact ⟨_, rfl⟩

/-- On an unconfigured block a command whose first check is for a configuration reports NOCFG. -/
theorem exec_of_unconfigured {i : Instr} {s : State} {rest : List Check} (hok : s.status.cfgok = false)
    (h : checks i s = needsConfig s :: rest) : exec i s = .next (s.completedWith 0x11) := by
  rw [exec_eq_finish, h, needsConfig, hok, finish_cons_false, State.complete_eq_completedWith]
  rfl

/-- Settles O22: NOCFG is decided before every other check of the command. -/
theorem unconfiguredCommandsReportNocfg : Obligations.UnconfiguredCommandsReportNocfg := by
  intro i s hfree hok
  obtain ⟨rest, hchecks⟩ := checks_of_not_free hfree s
  exact exec_of_unconfigured hok hchecks

/-! ## CONFIG (R101) -/

/-- CONFIG of a legal configuration makes the writes of success. -/
theorem exec_config_of_legal {s : State} (h : LegalCfg s.params.nmax s.snap.cfg) :
    exec .config s = .next ((s.configure (activeCfg s.snap.cfg)).complete .ok) := by
  have hok : configOk s.params.nmax s.snap.cfg = true := (configOk_iff _ _).mpr h
  rw [exec_eq_finish, checks, finish_nil, writes, code, if_pos hok, if_pos hok]

/-- CONFIG of an illegal configuration makes the writes of failure, although it reports an error
(R203 (a)). -/
theorem exec_config_of_illegal {s : State} (h : ¬LegalCfg s.params.nmax s.snap.cfg) :
    exec .config s = .next (s.unconfigure.complete .config) := by
  have hok : ¬configOk s.params.nmax s.snap.cfg = true := mt (configOk_iff _ _).mp h
  rw [exec_eq_finish, checks, finish_nil, writes, code, if_neg hok, if_neg hok]

/-- Settles O28: the model's test is legality, and each branch's writes and completion are the statement's
field by field. -/
theorem configValidatesAndActivates : Obligations.ConfigValidatesAndActivates := by
  intro s
  constructor
  · intro hlegal
    rw [exec_config_of_legal hlegal]
    rfl
  · intro hillegal
    rw [exec_config_of_illegal hillegal]
    rfl

/-! ## NOP and CLRACC (R100, R102) -/

/-- Settles O27: NOP makes no check and no write. -/
theorem nopOnlyCompletes : Obligations.NopOnlyCompletes := by
  intro s
  calc exec .nop s = .next (s.complete .ok) := exec_eq_finish .nop s
    _ = .next (s.completedWith 0x00) := congrArg _ (s.complete_eq_completedWith .ok)

/-- Settles O29: CLRACC makes no check, and its writes are those of `State.clearChecker`. -/
theorem clraccClearsTheChecker : Obligations.ClraccClearsTheChecker := by
  intro s
  calc exec .clracc s = .next (s.clearChecker.complete .ok) := exec_eq_finish .clracc s
    _ = .next (s.clearChecker.completedWith 0x00) :=
      congrArg _ (s.clearChecker.complete_eq_completedWith .ok)

end Sys2Proof.Proofs.Control

/-! # The address mapper (41_mapper.md R110 to R120) -/

namespace Sys2Proof.Proofs.Mapper

open Sys2Proof.Machine Sys2Proof.Proofs.Commands

/-! ## Positions by stripe, block and byte

A level that places m data blocks of S bytes in a stripe has each position once as (st*m + k)*S + b, with
k < m and b < S. The maps are simple in st, k and b. -/

/-- Every position has a stripe, a block and a byte. -/
theorem exists_stripe_block_byte {m sz : Nat} (hm : 0 < m) (hsz : 0 < sz) (pos : Nat) :
    ∃ st k b, k < m ∧ b < sz ∧ pos = (st * m + k) * sz + b := by
  refine ⟨pos / sz / m, pos / sz % m, pos % sz, Nat.mod_lt _ hm, Nat.mod_lt _ hsz, ?_⟩
  rw [Nat.div_add_mod', Nat.div_add_mod']

theorem mul_add_div_mod {sz b : Nat} (hb : b < sz) (q : Nat) :
    (q * sz + b) / sz = q ∧ (q * sz + b) % sz = b :=
  (Nat.div_mod_unique (Nat.zero_lt_of_lt hb)).mpr ⟨by rw [Nat.mul_comm, Nat.add_comm], hb⟩

/-- Dividing by the stripe data size m*S gives the stripe and the position within it. -/
theorem stripe_div_mod {m sz k b : Nat} (hk : k < m) (hb : b < sz) (st : Nat) :
    ((st * m + k) * sz + b) / (m * sz) = st ∧ ((st * m + k) * sz + b) % (m * sz) = k * sz + b := by
  have hw : k * sz + b < m * sz := calc
    k * sz + b < (k + 1) * sz := by rw [Nat.succ_mul]; omega
    _ ≤ m * sz := Nat.mul_le_mul_right sz hk
  have hpos : (st * m + k) * sz + b = st * (m * sz) + (k * sz + b) := by ring
  rw [hpos]
  exact mul_add_div_mod hw st

/-- The parts of a position do not exceed it, and neither does the offset st*S + b. -/
theorem parts_le {m sz : Nat} (hm : 0 < m) (hsz : 0 < sz) (st k b : Nat) :
    st ≤ st * m + k ∧ st * m + k ≤ (st * m + k) * sz + b ∧ st * sz + b ≤ (st * m + k) * sz + b := by
  have hst : st ≤ st * m + k := (Nat.le_mul_of_pos_right st hm).trans (Nat.le_add_right _ _)
  exact ⟨hst, (Nat.le_mul_of_pos_right _ hsz).trans (Nat.le_add_right _ _),
    Nat.add_le_add_right (Nat.mul_le_mul_right sz hst) b⟩

/-! ## Each map, in stripe, block and byte -/

section
variable {n sz k b : Nat}

/-- R112: a stripe row of RAID 0 has one chunk on each of the n disks. -/
theorem mapRaid0_position (hk : k < n) (hb : b < sz) (st : Nat) :
    mapRaid0 n sz ((st * n + k) * sz + b) =
      { stripe := some (st * n + k), disk := k, offset := st * sz + b, second := none, third := none
        inner := some b } := by
  obtain ⟨hsn, hbyte⟩ := mul_add_div_mod hb (st * n + k)
  obtain ⟨hst, hdisk⟩ := mul_add_div_mod hk st
  simp only [mapRaid0, hsn, hbyte, hst, hdisk]

/-- R114: a stripe row of RAID 10 has one chunk on each of the n/2 pairs. -/
theorem mapRaid10_position (hk : k < n / 2) (hb : b < sz) (st : Nat) :
    mapRaid10 n sz ((st * (n / 2) + k) * sz + b) =
      { stripe := some (st * (n / 2) + k), disk := 2 * k, offset := st * sz + b
        second := some (2 * k + 1), third := none, inner := some b } := by
  obtain ⟨hsn, hbyte⟩ := mul_add_div_mod hb (st * (n / 2) + k)
  obtain ⟨hst, hpair⟩ := mul_add_div_mod hk st
  simp only [mapRaid10, hsn, hbyte, hst, hpair]

/-- R115: block k lies on the k-th data disk of its stripe, whose parity disk is st mod N. -/
theorem mapRaid5_position (order : R5Order) (hk : k < n - 1) (hb : b < sz) (st : Nat) :
    mapRaid5 order n sz ((st * (n - 1) + k) * sz + b) =
      { stripe := some st, disk := dataDisk order n k (st % n), offset := st * sz + b
        second := some (st % n), third := none, inner := some k } := by
  obtain ⟨hst, hw⟩ := stripe_div_mod hk hb st
  obtain ⟨hblock, hbyte⟩ := mul_add_div_mod hb k
  simp only [mapRaid5, hst, hw, hblock, hbyte]

/-- R116: block k lies on disk k, P and Q on the last two. -/
theorem mapRaid6_position (hk : k < n - 2) (hb : b < sz) (st : Nat) :
    mapRaid6 n sz ((st * (n - 2) + k) * sz + b) =
      { stripe := some st, disk := k, offset := st * sz + b, second := some (n - 2)
        third := some (n - 1), inner := some k } := by
  obtain ⟨hst, hw⟩ := stripe_div_mod hk hb st
  obtain ⟨hblock, hbyte⟩ := mul_add_div_mod hb k
  simp only [mapRaid6, hst, hw, hblock, hbyte]

end

/-! ## The data disks of a RAID 5 stripe (R115, R119, R120) -/

/-- The data block that disk d holds in a RAID 5 stripe whose parity disk is p: dataDisk^-1 of R119. -/
def blockOf (order : R5Order) (n d p : Nat) : Nat :=
  match order with
  | .asc => if d < p then d else d - 1
  | .sym => (d + n - p - 1) % n

/-- A disk number that wraps once around the array. -/
theorem mod_of_lt_two_mul {a n : Nat} (h : a < 2 * n) : a % n = if a < n then a else a - n := by
  split
  next hlt => exact Nat.mod_eq_of_lt hlt
  next hge => rw [Nat.mod_eq_sub_mod (by omega), Nat.mod_eq_of_lt (by omega)]

section
variable {n p : Nat}

/-- No data block is on the parity disk. -/
theorem dataDisk_lt_and_ne (order : R5Order) (hp : p < n) {k : Nat} (hk : k < n - 1) :
    dataDisk order n k p < n ∧ dataDisk order n k p ≠ p := by
  cases order with
  | asc => simp only [dataDisk]; split <;> omega
  | sym => rw [dataDisk, mod_of_lt_two_mul (by omega)]; split <;> omega

/-- Data disks hold the blocks 0 to N-2. -/
theorem blockOf_lt (order : R5Order) (hp : p < n) {d : Nat} (hd : d < n) (hne : d ≠ p) :
    blockOf order n d p < n - 1 := by
  cases order with
  | asc => simp only [blockOf]; split <;> omega
  | sym => rw [blockOf, mod_of_lt_two_mul (by omega)]; split <;> omega

/-- R119: the formula finds the block that was placed on a disk. -/
theorem blockOf_dataDisk (order : R5Order) (hp : p < n) {k : Nat} (hk : k < n - 1) :
    blockOf order n (dataDisk order n k p) p = k := by
  cases order with
  | asc => simp only [blockOf, dataDisk]; split_ifs <;> omega
  | sym =>
    rw [blockOf, dataDisk, mod_of_lt_two_mul (a := p + 1 + k) (by omega)]
    split <;> rw [mod_of_lt_two_mul (by omega)] <;> split <;> omega

/-- The block the formula finds is placed on the disk it was found for. -/
theorem dataDisk_blockOf (order : R5Order) (hp : p < n) {d : Nat} (hd : d < n) (hne : d ≠ p) :
    dataDisk order n (blockOf order n d p) p = d := by
  cases order with
  | asc => simp only [blockOf, dataDisk]; split_ifs <;> omega
  | sym =>
    rw [blockOf, dataDisk, mod_of_lt_two_mul (a := d + n - p - 1) (by omega)]
    split <;> rw [mod_of_lt_two_mul (by omega)] <;> split <;> omega

end

/-- Settles O37: `blockOf` is the two-sided inverse of `dataDisk` on the disks other than p. -/
theorem raid5StripeUsesEachDiskOnce : Obligations.Raid5StripeUsesEachDiskOnce := by
  intro order n p _ hp
  refine ⟨fun k hk => dataDisk_lt_and_ne order hp hk, fun d hd hne => ?_⟩
  refine ⟨blockOf order n d p, ⟨blockOf_lt order hp hd hne, dataDisk_blockOf order hp hd hne⟩, ?_⟩
  rintro k hk rfl
  exact (blockOf_dataDisk order hp hk).symm

/-! ## The inverse maps (R119) -/

section
variable {n sz : Nat}

theorem mapRaid0_inverse (hn : 2 ≤ n) (hsz : 0 < sz) (pos : Nat) :
    ((mapRaid0 n sz pos).offset / sz * n + (mapRaid0 n sz pos).disk) * sz +
      (mapRaid0 n sz pos).offset % sz = pos := by
  obtain ⟨st, k, b, hk, hb, rfl⟩ := exists_stripe_block_byte (by omega : 0 < n) hsz pos
  obtain ⟨hst, hbyte⟩ := mul_add_div_mod hb st
  simp only [mapRaid0_position hk hb, hst, hbyte]

theorem mapRaid10_inverse (hn : 4 ≤ n) (hsz : 0 < sz) (pos : Nat) :
    ((mapRaid10 n sz pos).offset / sz * (n / 2) + (mapRaid10 n sz pos).disk / 2) * sz +
      (mapRaid10 n sz pos).offset % sz = pos := by
  obtain ⟨st, k, b, hk, hb, rfl⟩ := exists_stripe_block_byte (by omega : 0 < n / 2) hsz pos
  obtain ⟨hst, hbyte⟩ := mul_add_div_mod hb st
  have hpair : 2 * k / 2 = k := Nat.mul_div_cancel_left k Nat.two_pos
  simp only [mapRaid10_position hk hb, hst, hbyte, hpair]

theorem mapRaid5_inverse (order : R5Order) (hn : 3 ≤ n) (hsz : 0 < sz) (pos : Nat) {st : Nat}
    (hst : st = (mapRaid5 order n sz pos).offset / sz) :
    st * (n - 1) * sz + blockOf order n (mapRaid5 order n sz pos).disk (st % n) * sz +
      (mapRaid5 order n sz pos).offset % sz = pos := by
  obtain ⟨st', k, b, hk, hb, rfl⟩ := exists_stripe_block_byte (by omega : 0 < n - 1) hsz pos
  obtain ⟨hst', hbyte⟩ := mul_add_div_mod hb st'
  rw [mapRaid5_position order hk hb] at hst ⊢
  obtain rfl : st = st' := hst.trans hst'
  have hblock := blockOf_dataDisk order (Nat.mod_lt st (by omega : 0 < n)) hk
  simp only [hblock, hbyte, Nat.add_mul]

theorem mapRaid6_inverse (hn : 4 ≤ n) (hsz : 0 < sz) (pos : Nat) :
    (mapRaid6 n sz pos).offset / sz * (n - 2) * sz + (mapRaid6 n sz pos).disk * sz +
      (mapRaid6 n sz pos).offset % sz = pos := by
  obtain ⟨st, k, b, hk, hb, rfl⟩ := exists_stripe_block_byte (by omega : 0 < n - 2) hsz pos
  obtain ⟨hst, hbyte⟩ := mul_add_div_mod hb st
  rw [mapRaid6_position hk hb]
  simp only [hst, hbyte, Nat.add_mul]

end

/-- Settles O35, level by level; RAID 1 maps a position to itself. -/
theorem mapIsInvertible : Obligations.MapIsInvertible := by
  intro order n sz pos hsz
  refine ⟨fun hn => mapRaid0_inverse hn hsz pos, rfl, fun hn _ => mapRaid10_inverse hn hsz pos, ?_,
    fun hn => mapRaid6_inverse hn hsz pos⟩
  rintro hn d st p k rfl hst rfl hk
  obtain rfl : k = blockOf order n (mapRaid5 order n sz pos).disk (st % n) := hk
  exact mapRaid5_inverse order hn hsz pos hst

/-! ## Bounds on the results (R110) -/

/-- The results of mapping pos on n disks are bounded by pos, and its disks are distinct disks of the array. -/
def Exact (n pos : Nat) (m : Mapping) : Prop :=
  m.offset ≤ pos ∧ (∀ x ∈ m.stripe, x ≤ pos) ∧ (∀ x ∈ m.inner, x ≤ pos) ∧
    m.disk < n ∧ (∀ x ∈ m.second, x < n ∧ x ≠ m.disk) ∧ (∀ x ∈ m.third, x < n ∧ x ≠ m.disk)

section
variable {n sz : Nat}

theorem exact_mapRaid0 (hn : 2 ≤ n) (hsz : 1 ≤ sz) (pos : Nat) : Exact n pos (mapRaid0 n sz pos) := by
  have hdisks : 0 < n := by omega
  obtain ⟨st, k, b, hk, hb, rfl⟩ := exists_stripe_block_byte hdisks hsz pos
  obtain ⟨-, hsn, hoffset⟩ := parts_le hdisks hsz st k b
  rw [mapRaid0_position hk hb]
  simp [Exact, hsn, hoffset, hk]

theorem exact_mapRaid1 (hn : 2 ≤ n) (pos : Nat) : Exact n pos (mapRaid1 pos) := by
  have hdisk : 0 < n := by omega
  simp [Exact, mapRaid1, hdisk]

theorem exact_mapRaid10 (hn : 4 ≤ n) (hsz : 1 ≤ sz) (pos : Nat) : Exact n pos (mapRaid10 n sz pos) := by
  have hpairs : 0 < n / 2 := by omega
  obtain ⟨st, k, b, hk, hb, rfl⟩ := exists_stripe_block_byte hpairs hsz pos
  obtain ⟨-, hsn, hoffset⟩ := parts_le hpairs hsz st k b
  have hsecond : 2 * k + 1 < n := by omega
  rw [mapRaid10_position hk hb]
  simp [Exact, hsn, hoffset, hsecond, Nat.lt_of_succ_lt hsecond]

theorem exact_mapRaid5 (order : R5Order) (hn : 3 ≤ n) (hsz : 1 ≤ sz) (pos : Nat) :
    Exact n pos (mapRaid5 order n sz pos) := by
  have hblocks : 0 < n - 1 := by omega
  obtain ⟨st, k, b, hk, hb, rfl⟩ := exists_stripe_block_byte hblocks hsz pos
  obtain ⟨hst, hsn, hoffset⟩ := parts_le hblocks hsz st k b
  have hp : st % n < n := Nat.mod_lt st (by omega)
  obtain ⟨hdisk, hne⟩ := dataDisk_lt_and_ne order hp hk
  rw [mapRaid5_position order hk hb]
  simp [Exact, hoffset, hst.trans hsn, (Nat.le_add_left k _).trans hsn, hdisk, hp, hne.symm]

theorem exact_mapRaid6 (hn : 4 ≤ n) (hsz : 1 ≤ sz) (pos : Nat) : Exact n pos (mapRaid6 n sz pos) := by
  have hblocks : 0 < n - 2 := by omega
  obtain ⟨st, k, b, hk, hb, rfl⟩ := exists_stripe_block_byte hblocks hsz pos
  obtain ⟨hst, hsn, hoffset⟩ := parts_le hblocks hsz st k b
  rw [mapRaid6_position hk hb]
  simp only [Exact, Option.mem_some_iff, forall_eq']
  omega

end

/-- The fewest disks of an array of a level (R101). -/
def minDisks : Level → Nat
  | .raid0 | .raid1 => 2
  | .raid5 => 3
  | .raid10 | .raid6 => 4

/-- A legal configuration has the disks its level needs and, but for RAID 1, a stripe size that is not 0. -/
theorem legalCfg_bounds {nmax : Nat} {c : Cfg} {l : Level} (h : LegalCfg nmax c) (hl : c.level = l.code) :
    minDisks l ≤ c.n.toNat ∧ (l ≠ .raid1 → 1 ≤ c.s.toNat) := by
  obtain ⟨-, h⟩ := h
  rw [hl] at h
  cases l <;> simp_all [Level.code, minDisks]

/-- Settles O36: a legal configuration has the disks and the stripe size each level's bounds need. -/
theorem mapResultsAreExact : Obligations.MapResultsAreExact := by
  rintro l order nmax c pos _ hlegal hlevel rfl
  obtain ⟨hn, hsz⟩ := legalCfg_bounds hlegal hlevel
  cases l with
  | raid0 => exact exact_mapRaid0 hn (hsz (by decide)) pos
  | raid1 => exact exact_mapRaid1 hn pos
  | raid10 => exact exact_mapRaid10 hn (hsz (by decide)) pos
  | raid5 => exact exact_mapRaid5 order hn (hsz (by decide)) pos
  | raid6 => exact exact_mapRaid6 hn (hsz (by decide)) pos

/-! ## MAP (R111 to R116) -/

/-- MAP at an active level writes the six results of that level's map and completes without error (R111). -/
theorem exec_map_of_activeAt {s : State} {l : Level} (h : ActiveAt s l.code) :
    exec .map s = .next ((s.putMapping
      (mapAt l s.params.r5DataOrder s.acfg.n.toNat s.acfg.s.toNat s.snap.pos.toNat)).completedWith 0x00) := by
  obtain ⟨hok, hcode⟩ := h
  have hlevel : s.level = some l := (Level.ofCode_eq_some _ _).mpr hcode
  rw [exec_eq_finish, finish_of_passes _ _ _ _ (by simp [checks, hlevel, needsConfig, hok]), writes, hlevel]
  rfl

/-- Settles O30: the results of `mapRaid0` are the statement's. -/
theorem mapTranslatesAtRaid0 : Obligations.MapTranslatesAtRaid0 :=
  fun _ h => exec_map_of_activeAt (l := .raid0) h

/-- Settles O31: the offset is POS itself, narrowed from its own number. -/
theorem mapTranslatesAtRaid1 : Obligations.MapTranslatesAtRaid1 := by
  intro s h
  have hoffset : natResult s.snap.pos.toNat = s.snap.pos := by simp [natResult]
  rw [exec_map_of_activeAt (l := .raid1) h]
  simp only [State.completedWith, State.putMapping, mapAt, mapRaid1, hoffset]
  rfl

/-- Settles O32: the statement's h, sn and pr are those of `mapRaid10`. -/
theorem mapTranslatesAtRaid10 : Obligations.MapTranslatesAtRaid10 := by
  rintro s _ _ _ h rfl rfl rfl
  exact exec_map_of_activeAt (l := .raid10) h

/-- Settles O33: `mapRaid5_position` gives the results in st, k and b. -/
theorem mapTranslatesAtRaid5 : Obligations.MapTranslatesAtRaid5 := by
  rintro s _ _ st k b h rfl rfl hk hb hpos
  rw [exec_map_of_activeAt (l := .raid5) h, mapAt, hpos, mapRaid5_position _ hk hb]
  rfl

/-- Settles O34: `mapRaid6_position` gives the results in st, k and b. -/
theorem mapTranslatesAtRaid6 : Obligations.MapTranslatesAtRaid6 := by
  rintro s _ _ st k b h rfl rfl hk hb hpos
  rw [exec_map_of_activeAt (l := .raid6) h, mapAt, hpos, mapRaid6_position hk hb]
  rfl

/-! ## RANGE (R117) -/

/-- g is the stripe unit G of RANGE for a configuration of a level that has stripes (R117). -/
def IsStripeUnit (c : Cfg) (g : Nat) : Prop :=
  (c.level = 0x00 ∨ c.level = 0x0A) ∧ g = c.s.toNat ∨
    c.level = 0x05 ∧ g = (c.n.toNat - 1) * c.s.toNat ∨
    c.level = 0x06 ∧ g = (c.n.toNat - 2) * c.s.toNat

theorem stripeUnit_of_isStripeUnit {s : State} {g : Nat} (h : IsStripeUnit s.acfg g) :
    stripeUnit s.level s.disks s.stripeSize = some g := by
  have hlevel (l : Level) (hl : s.acfg.level = l.code) : s.level = some l :=
    (Level.ofCode_eq_some _ _).mpr hl
  rcases h with ⟨hl | hl, rfl⟩ | ⟨hl, rfl⟩ | ⟨hl, rfl⟩
  · rw [hlevel .raid0 hl]; rfl
  · rw [hlevel .raid10 hl]; rfl
  · rw [hlevel .raid5 hl]; rfl
  · rw [hlevel .raid6 hl]; rfl

/-- A legal configuration has a stripe unit that is not 0, and far below 2^64 (R101, R110). -/
theorem stripeUnit_bounds {nmax g : Nat} {c : Cfg} (hlegal : LegalCfg nmax c) (h : IsStripeUnit c g) :
    0 < g ∧ g < 2 ^ 64 := by
  have hs : c.s.toNat < 2 ^ 32 := c.s.isLt
  have hblocks (m : Nat) (hm0 : 0 < m) (hm : m ≤ c.n.toNat) (hs0 : 1 ≤ c.s.toNat) :
      0 < m * c.s.toNat ∧ m * c.s.toNat < 2 ^ 64 :=
    ⟨Nat.mul_pos hm0 hs0, (Nat.mul_lt_mul'' (hm.trans_lt c.n.isLt) hs).trans (by decide)⟩
  have hbounds (l : Level) (hl : c.level = l.code) := legalCfg_bounds hlegal hl
  rcases h with ⟨hl | hl, rfl⟩ | ⟨hl, rfl⟩ | ⟨hl, rfl⟩
  · exact ⟨(hbounds .raid0 hl).2 (by decide), hs.trans (by decide)⟩
  · exact ⟨(hbounds .raid10 hl).2 (by decide), hs.trans (by decide)⟩
  · obtain ⟨hn, hs0⟩ := hbounds .raid5 hl
    exact hblocks _ (Nat.sub_pos_of_lt (Nat.lt_of_succ_lt hn)) (Nat.sub_le _ _) (hs0 (by decide))
  · obtain ⟨hn, hs0⟩ := hbounds .raid6 hl
    exact hblocks _ (Nat.sub_pos_of_lt (Nat.lt_of_succ_lt hn)) (Nat.sub_le _ _) (hs0 (by decide))

/-- RANGE's operand check: an empty range, or one that ends at 2^64-1 at most. -/
theorem rangeFits_iff {pos len : Nat} (hpos : pos < 2 ^ 64) :
    rangeFits pos len = true ↔ len = 0 ∨ pos + len ≤ 2 ^ 64 := by
  simp only [rangeFits, Bool.or_eq_true, decide_eq_true_eq]
  omega

section
variable {s : State} {g : Nat}

theorem checks_range_of_isStripeUnit (h : IsStripeUnit s.acfg g) :
    checks .range s = [needsConfig s, (rangeFits s.opPos s.opLen, .operand)] := by
  rw [checks, stripeUnit_of_isStripeUnit h]
  rfl

/-- A range that passes the check is grouped into stripes. -/
theorem exec_range_of_fits (hok : s.status.cfgok = true) (h : IsStripeUnit s.acfg g)
    (hfits : rangeFits s.opPos s.opLen = true) :
    exec .range s = .next ((s.putRange g s.opPos s.opLen).complete .ok) := by
  rw [exec_eq_finish, checks_range_of_isStripeUnit h, needsConfig, hok, hfits, finish_cons_true,
    finish_cons_true, finish_nil, writes, stripeUnit_of_isStripeUnit h]
  rfl

/-- A range that does not pass it reports OPERAND. -/
theorem exec_range_of_not_fits (hok : s.status.cfgok = true) (h : IsStripeUnit s.acfg g)
    (hfits : rangeFits s.opPos s.opLen = false) : exec .range s = .next (s.completedWith 0x13) := by
  rw [exec_eq_finish, checks_range_of_isStripeUnit h, needsConfig, hok, hfits, finish_cons_true,
    finish_cons_false, State.complete_eq_completedWith]
  rfl

end

/-- Settles O38: the clauses are the check's two outcomes and, where it passes, the two cases of the writes. -/
theorem rangeGroupsIntoStripes : Obligations.RangeGroupsIntoStripes := by
  rintro s g _ _ hok rfl rfl hunit
  have hfits := rangeFits_iff (len := s.snap.len.toNat) s.snap.pos.isLt
  refine ⟨fun hempty => ?_, fun hlen hend => ?_, fun hend hlen => ?_⟩
  · rw [exec_range_of_fits hok hunit (hfits.mpr (.inl hempty)), State.putRange,
      if_pos (show s.opLen = 0 from hempty)]
    rfl
  · have hne : s.opLen ≠ 0 := Nat.ne_of_gt hlen
    rw [exec_range_of_fits hok hunit (hfits.mpr (.inr hend)), State.putRange, if_neg hne]
    rfl
  · exact exec_range_of_not_fits hok hunit (Bool.eq_false_iff.mpr (mt hfits.mp (by omega)))

/-- A non-empty range touches every stripe from its first byte's to its last byte's: stripe x holds the
later of the range's first byte and its own. -/
theorem image_stripe_eq_Icc {g len : Nat} (hg : 0 < g) (hlen : 1 ≤ len) (pos : Nat) :
    (Finset.range len).image (fun i => (pos + i) / g) = Finset.Icc (pos / g) ((pos + len - 1) / g) := by
  ext x
  simp only [Finset.mem_image, Finset.mem_range, Finset.mem_Icc]
  constructor
  · rintro ⟨i, hi, rfl⟩
    exact ⟨Nat.div_le_div_right (by omega), Nat.div_le_div_right (by omega)⟩
  · rintro ⟨hfirst, hlast⟩
    have hx : x * g ≤ pos + len - 1 := (Nat.le_div_iff_mul_le hg).mp hlast
    refine ⟨x * g - pos, by omega, ?_⟩
    rcases Nat.le_total (x * g) pos with hle | hle
    · rw [Nat.sub_eq_zero_of_le hle, Nat.add_zero]
      exact Nat.le_antisymm hfirst ((Nat.le_div_iff_mul_le hg).mpr hle)
    · rw [Nat.add_sub_cancel' hle, Nat.mul_div_cancel x hg]

/-- RES2's formula counts the stripes a non-empty range touches. -/
theorem card_stripes {g len : Nat} (hg : 0 < g) (hlen : 1 ≤ len) (pos : Nat) :
    ((Finset.range len).image (fun i => (pos + i) / g)).card = (pos + len - 1) / g - pos / g + 1 := by
  have hle : pos / g ≤ (pos + len - 1) / g := Nat.div_le_div_right (by omega)
  rw [image_stripe_eq_Icc hg hlen, Nat.card_Icc]
  omega

/-- Settles O39: the results are those of O38, and each is below 2^64: a stripe is at most its position, and
there are at most as many stripes as bytes. -/
theorem rangeCountsTheStripesTouched : Obligations.RangeCountsTheStripesTouched := by
  intro s g pos len hok hlegal hpos hlen hunit hend
  obtain ⟨hempty, hfits, -⟩ := rangeGroupsIntoStripes s g pos len hok hpos hlen hunit
  obtain ⟨hg, hg64⟩ := stripeUnit_bounds hlegal hunit
  have hpos64 : pos < 2 ^ 64 := hpos ▸ s.snap.pos.isLt
  have hlen64 : len < 2 ^ 64 := hlen ▸ s.snap.len.isLt
  have hstripe (q : Nat) (hq : q < 2 ^ 64) : (natResult (q / g)).toNat = q / g :=
    toNat_natResult _ ((Nat.div_le_self q g).trans_lt hq)
  rcases Nat.eq_zero_or_pos len with rfl | hlen1
  · exact ⟨_, hempty rfl, rfl, rfl, hstripe pos hpos64, hstripe pos hpos64, toNat_natResult g hg64⟩
  · have hcard := card_stripes hg hlen1 pos
    have hcount : ((Finset.range len).image (fun i => (pos + i) / g)).card ≤ len :=
      Finset.card_image_le.trans_eq (Finset.card_range len)
    rw [if_neg (Nat.ne_of_gt hlen1), hcard]
    exact ⟨_, hfits hlen1 hend, rfl, toNat_natResult _ (by omega), hstripe pos hpos64,
      hstripe _ (by omega), toNat_natResult g hg64⟩

/-! ## ALIGNCHK (R118) -/

theorem aligned_iff (s : State) :
    aligned s = true ↔ (s.acfg.level = 0x05 → (s.acfg.n.toNat - 1) * s.acfg.s.toNat ∣ s.snap.pos.toNat) := by
  rw [aligned, Nat.dvd_iff_mod_eq_zero]
  split
  next hlevel => exact decide_eq_true_iff.trans ⟨fun h _ => h, fun h => h hlevel⟩
  next hlevel => exact ⟨fun _ h => absurd h hlevel, fun _ => rfl⟩

/-- On a configured block ALIGNCHK reports its test and writes nothing else. -/
theorem exec_alignchk {s : State} (hok : s.status.cfgok = true) :
    exec .alignchk s = .next (s.completedWith (if aligned s then 0x00 else 0x02)) := by
  rw [exec_eq_finish, checks, needsConfig, hok, finish_cons_true]
  cases aligned s <;> rfl

/-- Settles O40: the test passes at every level but RAID 5, and there where the stripe data size divides POS. -/
theorem alignchkChecksRaid5Writes : Obligations.AlignchkChecksRaid5Writes := by
  intro s hok
  rw [exec_alignchk hok]
  refine ⟨fun hlevel hoff => ?_, fun _ hon => ?_, fun hlevel => ?_⟩
  · rw [if_neg fun h => hoff ((aligned_iff s).mp h hlevel)]
  · rw [if_pos ((aligned_iff s).mpr fun _ => hon)]
  · rw [if_pos ((aligned_iff s).mpr fun h => absurd h hlevel)]

end Sys2Proof.Proofs.Mapper

/-! # The OPERAND checks and the XOR parity commands (42_xor_parity.md R130 to R135) -/

namespace Sys2Proof.Proofs.Checker

open Sys2Proof.Machine Sys2Proof.Proofs.Commands Sys2Proof.Proofs.Invariant

/-! ## Commands on a block active at the level they need (R201) -/

section
variable {s : State} {l : Level} {i : Instr} {rest : List Check}

/-- On a block active at the level a command needs, only the checks after the level check decide. -/
theorem exec_of_activeAt (h : ActiveAt s l.code) (hchecks : checks i s = needsConfig s :: needsLevel s l :: rest) :
    exec i s = finish rest s (writes i s) (code i s) := by
  obtain ⟨hok, hlevel⟩ := h
  have hpass : needsLevel s l = (true, .level) := by simp [needsLevel, hlevel]
  rw [exec_eq_finish, hchecks, hpass, needsConfig, hok, finish_cons_true, finish_cons_true]

/-- There the first of these checks, where it fails, is the one reported, and nothing is written. -/
theorem exec_of_check_fails {passes : Bool} (e : ErrCode) (h : ActiveAt s l.code) (hfails : passes = false)
    (hchecks : checks i s = needsConfig s :: needsLevel s l :: (passes, e) :: rest) :
    exec i s = .next (s.completedWith e.code) := by
  rw [exec_of_activeAt h hchecks, hfails, finish_cons_false, State.complete_eq_completedWith]

/-- Where these checks all pass, the command completes with its writes and its code. -/
theorem exec_of_checks_pass (h : ActiveAt s l.code)
    (hchecks : checks i s = needsConfig s :: needsLevel s l :: rest) (hpass : ∀ c ∈ rest, c.1 = true) :
    exec i s = .next ((writes i s).complete (code i s)) := by
  rw [exec_of_activeAt h hchecks, finish_of_passes _ _ _ _ hpass]

end

/-! ## Disk and lane indices out of range -/

theorem isDataLane_iff (s : State) (t : Byte) : isDataLane s t = true ↔ t.toNat < s.acfg.n.toNat - 2 :=
  decide_eq_true_iff

theorem areTwoDataLanes_iff (s : State) (t o : Byte) : areTwoDataLanes s t o = true ↔
    t.toNat < s.acfg.n.toNat - 2 ∧ o.toNat < s.acfg.n.toNat - 2 ∧ t ≠ o := by
  simp only [areTwoDataLanes, Bool.and_eq_true, isDataLane_iff, decide_eq_true_eq, and_assoc]

/-- Settles O24: the index check is the first after the level check, and an index out of range, or t = o,
fails it. -/
theorem badIndexReportsOperand : Obligations.BadIndexReportsOperand := by
  intro s t o
  refine ⟨fun h ht => ?_, fun h ht => ?_, fun h hto => ?_⟩
  · have hfails : decide (t.toNat < s.disks) = false := decide_eq_false (Nat.not_lt.mpr ht)
    exact ⟨exec_of_check_fails (l := .raid5) .operand h hfails rfl,
      exec_of_check_fails (l := .raid5) .operand h hfails rfl⟩
  · have hfails : isDataLane s t = false :=
      Bool.eq_false_iff.mpr fun hlane => Nat.not_lt.mpr ht ((isDataLane_iff s t).mp hlane)
    exact ⟨exec_of_check_fails (l := .raid6) .operand h hfails rfl,
      exec_of_check_fails (l := .raid6) .operand h hfails rfl⟩
  · have hfails : areTwoDataLanes s t o = false := by
      rw [Bool.eq_false_iff, ne_eq, areTwoDataLanes_iff]
      rintro ⟨ht, ho, hne⟩
      rcases hto with hto | hto | hto
      · exact Nat.not_lt.mpr hto ht
      · exact Nat.not_lt.mpr hto ho
      · exact hne hto
    exact ⟨exec_of_check_fails (l := .raid6) .operand h hfails rfl,
      exec_of_check_fails (l := .raid6) .operand h hfails rfl⟩

/-! ## XP_ENC and XP_ACC (R131, R133) -/

/-- Settles O42: with p in range every check passes, and the write is the XOR over the disks but p. -/
theorem xpEncWritesTheParity : Obligations.XpEncWritesTheParity := by
  intro s p h hp
  have hpass : decide (p.toNat < s.disks) = true := decide_eq_true hp
  rw [exec_of_checks_pass (l := .raid5) h rfl (by simpa using hpass)]
  rfl

/-- Settles O43: the bits of the mask XP_ACC adds to NZ are the disks whose lane is not 0. -/
theorem xpAccAccumulatesNonZeroLanes : Obligations.XpAccAccumulatesNonZeroLanes := by
  intro s h
  refine ⟨s.nz ||| maskOf (nonZeroLanes s), exec_of_checks_pass (l := .raid5) h rfl (by simp), fun k hk => ?_⟩
  rw [BitVec.getLsbD_or, getLsbD_maskOf _ _ hk]
  simp [nonZeroLanes, State.disks]

/-! ## XP_EVAL (R132) -/

/-- Disk k is too short or its block is all zero, and it is not the parity disk p (R132). -/
def isMissing (s : State) (p k : Nat) : Bool :=
  decide (k ≠ p) && (!s.snap.present.getLsbD k || !s.nz.getLsbD k)

/-- The set XP_EVAL judges is that of the missing disks. -/
theorem missingDisks_eq_diskSet (s : State) (p : Nat) :
    missingDisks s.disks p s.snap.present s.nz = diskSet s.disks (isMissing s p) := rfl

/-- The length of a disk set is the number of its disks. -/
theorem length_diskSet (n : Nat) (f : Nat → Bool) :
    (diskSet n f).length = ((Finset.range n).filter (fun k => f k = true)).card := by
  have hnodup : (diskSet n f).Nodup := List.nodup_range.filter _
  rw [← List.toFinset_card_of_nodup hnodup]
  congr 1
  ext k
  simp

/-- The code XP_EVAL reports, by the number of missing disks. -/
theorem code_xpEval (s : State) (p : Byte) : (code (.xpEval p) s).code =
    if 2 ≤ (diskSet s.disks (isMissing s p.toNat)).length then 0x03 else 0x00 := by
  rw [code, missingDisks_eq_diskSet, apply_ite ErrCode.code]
  rfl

/-- Settles O44: MISS is the mask of the missing disks, and their number, which decides the code, is the
length of their list. -/
theorem xpEvalJudgesTheDataBlocks : Obligations.XpEvalJudgesTheDataBlocks := by
  intro s p missing cnt h hp hmissing hcnt
  obtain rfl : missing = isMissing s p.toNat := funext hmissing
  obtain rfl : cnt = (diskSet s.disks (isMissing s p.toNat)).length := hcnt.trans (length_diskSet _ _).symm
  have hpass : decide (p.toNat < s.disks) = true := decide_eq_true hp
  refine ⟨(Chk.judged p (diskSet s.disks (isMissing s p.toNat))).miss, ?_, fun k hk => ?_⟩
  · rw [exec_of_checks_pass (l := .raid5) h rfl (by simpa using hpass), State.complete_eq_completedWith,
      code_xpEval]
    rfl
  · rw [getLsbD_judged_miss p _ k hk]
    simp [State.disks]

/-! ## XP_REC (R134) -/

/-- The one bit of CHK.MISS is found. -/
theorem missIndex_twoPow {m : Nat} (hm : m < 32) : missIndex (BitVec.twoPow 32 m) = m := by
  have hfind : (List.range 32).find? (BitVec.twoPow 32 m).getLsbD = some m := by
    rw [List.find?_range_eq_some]
    refine ⟨by simp [hm], List.mem_range.mpr hm, fun j hj => ?_⟩
    simp [Nat.ne_of_gt hj]
  rw [missIndex, hfind, Option.getD_some]

/-- After a judgement of at most one missing disk XP_REC rebuilds. -/
theorem exec_xpRec_of_recoverable {s : State} (h : ActiveAt s 0x05) (hevalid : s.chk.evalid = true)
    (hmcnt : s.chk.mcnt.toNat < 2) : exec .xpRec s = .next (s.putRebuilt.complete .ok) :=
  exec_of_checks_pass (l := .raid5) h rfl (by simp [hevalid, hmcnt])

/-- Settles O45: the first two clauses are the checks after the level check, in their order, the last two the
cases of the writes. -/
theorem xpRecRebuildsOrReports : Obligations.XpRecRebuildsOrReports := by
  intro s h
  refine ⟨fun hevalid => ?_, fun hevalid hmcnt => ?_, fun hevalid hmcnt => ?_,
    fun m hm hevalid hmcnt hmiss => ?_⟩
  · exact exec_of_check_fails (l := .raid5) .sequence h hevalid rfl
  · have hfails : decide (s.chk.mcnt.toNat < 2) = false := decide_eq_false (Nat.not_lt.mpr hmcnt)
    rw [exec_of_activeAt (l := .raid5) h rfl, hevalid, hfails, finish_cons_true, finish_cons_false,
      State.complete_eq_completedWith]
    rfl
  · rw [exec_xpRec_of_recoverable h hevalid (by simp [hmcnt]), State.putRebuilt, if_pos hmcnt]
    rfl
  · rw [exec_xpRec_of_recoverable h hevalid (by simp [hmcnt]), State.putRebuilt, if_neg (by simp [hmcnt]),
      hmiss, missIndex_twoPow hm]
    rfl

/-! ## The parity laws (R135) -/

/-- The XOR over a list does not depend on its order. -/
theorem xorOver_perm {ks ls : List Nat} (h : ks.Perm ls) (e : Nat → Byte) : xorOver ks e = xorOver ls e := by
  induction h with
  | nil => rfl
  | cons k _ ih => rw [xorOver_cons, xorOver_cons, ih]
  | swap j k ks => simp only [xorOver_cons, ← BitVec.xor_assoc, BitVec.xor_comm (e j)]
  | trans _ _ ih₁ ih₂ => exact ih₁.trans ih₂

/-- The XOR over a list depends only on the bytes of its members. -/
theorem xorOver_congr {ks : List Nat} {e f : Nat → Byte} (h : ∀ k ∈ ks, e k = f k) :
    xorOver ks e = xorOver ks f := by
  induction ks with
  | nil => rfl
  | cons k ks ih =>
    rw [xorOver_cons, xorOver_cons, h k List.mem_cons_self, ih fun j hj => h j (List.mem_cons_of_mem k hj)]

/-- A disk's byte taken out of the XOR over all disks. -/
theorem xorOver_range_eq_xor {n k : Nat} (hk : k < n) (e : Nat → Byte) :
    xorOver (List.range n) e = e k ^^^ xorOver ((List.range n).filter (· ≠ k)) e := by
  have herase : (List.range n).erase k = (List.range n).filter (· ≠ k) :=
    (List.nodup_range.erase_eq_filter k).trans (List.filter_congr fun _ _ => decide_not.symm)
  have hperm : (List.range n).Perm (k :: (List.range n).filter (· ≠ k)) :=
    herase ▸ List.perm_cons_erase (List.mem_range.mpr hk)
  rw [xorOver_perm hperm, xorOver_cons]

/-- Settles O46: taken out of the XOR over all disks, the parity byte meets itself, and then the byte of m
meets the XOR of the others. -/
theorem parityLawsHold : Obligations.ParityLawsHold := by
  intro n p m e hp hm hparity
  have hzero : xorOver (List.range n) e = 0 := by
    rw [xorOver_range_eq_xor hp, ← hparity]
    exact BitVec.xor_self
  refine ⟨hzero, ?_⟩
  rw [xorOver_range_eq_xor hm] at hzero
  exact (BitVec.xor_eq_zero_iff.mp hzero).symm

/-! ## The RAID 5 check (R130) -/

/-- XP_EVAL with disk m alone missing succeeds and records m in CHK. -/
theorem exec_xpEval_of_one_missing {s : State} {p : Byte} {m : Nat} (h : ActiveAt s 0x05)
    (hp : p.toNat < s.acfg.n.toNat) (hm : m < s.acfg.n.toNat)
    (hone : ∀ k, k < s.acfg.n.toNat → (isMissing s p.toNat k = true ↔ k = m)) :
    exec (.xpEval p) s = .next { s with
      status := s.doneStatus 0x00
      chk := { miss := BitVec.twoPow 32 m, mcnt := 1, evalid := true, epar := p } } := by
  have hcard : 1 = ((Finset.range s.acfg.n.toNat).filter (fun k => isMissing s p.toNat k = true)).card := by
    rw [eq_comm, Finset.card_eq_one]
    refine ⟨m, Finset.ext fun k => ?_⟩
    rw [Finset.mem_filter, Finset.mem_range, Finset.mem_singleton]
    exact ⟨fun ⟨hk, hmissing⟩ => (hone k hk).mp hmissing, fun hk => hk ▸ ⟨hm, (hone m hm).mpr rfl⟩⟩
  obtain ⟨miss, hexec, hbits⟩ := xpEvalJudgesTheDataBlocks s p (isMissing s p.toNat) 1 h hp (fun _ => rfl) hcard
  have hmiss : miss = BitVec.twoPow 32 m := by
    refine BitVec.eq_of_getLsbD_eq fun k hk => ?_
    rw [hbits k hk, BitVec.getLsbD_twoPow, Bool.eq_iff_iff]
    simp only [Bool.and_eq_true, decide_eq_true_eq]
    constructor
    · rintro ⟨hkn, hmissing⟩
      obtain rfl := (hone k hkn).mp hmissing
      exact ⟨hk, rfl⟩
    · rintro ⟨-, rfl⟩
      exact ⟨hm, (hone m hm).mpr rfl⟩
  rw [hexec, hmiss]
  rfl

/-- Settles O47: m is the one missing disk, so XP_EVAL records it (`exec_xpEval_of_one_missing`), XP_REC
answers the XOR over the disks but m (O45), and by the parity law (O46) that is the true byte of m. -/
theorem raid5CheckRebuildsTheLostByte : Obligations.Raid5CheckRebuildsTheLostByte := by
  intro s p m h hn hp hm hmp hgood
  have hone (k : Nat) (hk : k < s.acfg.n.toNat) : isMissing s p.toNat k = true ↔ k = m := by
    by_cases hkp : k = p.toNat
    · simp [isMissing, hkp, hmp.symm]
    · rw [← not_iff_not, ← ne_eq k m, ← hgood k hk hkp]
      simp [isMissing, hkp]
  refine ⟨_, exec_xpEval_of_one_missing h hp hm hone, rfl, ?_⟩
  intro v d hcfgok hacfg hchk hparity hcolumn
  have hactive : ActiveAt v 0x05 := ⟨hcfgok.trans h.1, (congrArg Cfg.level hacfg).trans h.2⟩
  obtain ⟨-, -, -, hrebuild⟩ := xpRecRebuildsOrReports v hactive
  have hbyte : xorOver ((List.range s.acfg.n.toNat).filter (· ≠ m)) v.lane = d m := by
    rw [← (parityLawsHold _ _ m d hp hm hparity).2]
    refine xorOver_congr fun k hk => ?_
    rw [List.mem_filter, List.mem_range, decide_eq_true_eq] at hk
    exact hcolumn k hk.1 hk.2
  refine ⟨_, hrebuild m (hm.trans_le hn) (by rw [hchk]) (by rw [hchk]) (by rw [hchk]), rfl, ?_, rfl⟩
  show (xorOver ((List.range v.acfg.n.toNat).filter (· ≠ m)) v.lane).setWidth 64 = _
  rw [hacfg]
  exact congrArg _ hbyte

end Sys2Proof.Proofs.Checker

/-! # The field GF(256), GF_MUL and GF_INV (43_gf.md R150 to R155)

The product is the sum, over the bits of b, of a times a power of x (`gfmul_eq_xorOver`). Its laws follow from
two properties of "times x": it is additive, and it commutes with every sum of its own powers. That every
element but 0 has an inverse follows from the order of x being 255. -/

namespace Sys2Proof.Proofs.Galois

open Sys2Proof.Machine Sys2Proof.Proofs.Commands

/-! ## Additive functions -/

/-- f takes the XOR of two values to the XOR of their images. -/
def XorAdditive {m n : Nat} (f : BitVec m → BitVec n) : Prop := ∀ a b, f (a ^^^ b) = f a ^^^ f b

theorem XorAdditive.map_zero {m n : Nat} {f : BitVec m → BitVec n} (hf : XorAdditive f) : f 0 = 0 := by
  have h : f 0 = f 0 ^^^ f 0 := by simpa using hf 0 0
  rwa [BitVec.xor_self] at h

theorem XorAdditive.comp {l m n : Nat} {g : BitVec m → BitVec n} {f : BitVec l → BitVec m}
    (hg : XorAdditive g) (hf : XorAdditive f) : XorAdditive fun a => g (f a) :=
  fun a b => (congrArg g (hf a b)).trans (hg _ _)

/-- A constant added for each of two values adds, for their XOR, to a constant added once or not at all: the
step of R150 and of the division that reduces where a bit is 1. -/
theorem xor_ite_xor {n : Nat} (p q : Bool) (a b c : BitVec n) :
    (if p ^^ q then (a ^^^ b) ^^^ c else a ^^^ b) = (if p then a ^^^ c else a) ^^^ (if q then b ^^^ c else b) := by
  match p, q with
  | false, false => rfl
  | false, true => exact BitVec.xor_assoc a b c
  | true, false =>
    show a ^^^ b ^^^ c = a ^^^ c ^^^ b
    ac_rfl
  | true, true =>
    show a ^^^ b = a ^^^ c ^^^ (b ^^^ c)
    have hpair : a ^^^ c ^^^ (b ^^^ c) = a ^^^ b ^^^ (c ^^^ c) := by ac_rfl
    rw [hpair, BitVec.xor_self, BitVec.xor_zero]

theorem XorAdditive.map_xorOver {f : Byte → Byte} (hf : XorAdditive f) (ks : List Nat) (e : Nat → Byte) :
    f (xorOver ks e) = xorOver ks fun k => f (e k) := by
  induction ks with
  | nil => exact hf.map_zero
  | cons k ks ih => rw [xorOver_cons, xorOver_cons, hf, ih]

/-- The XOR over a list, of two bytes for each member. -/
theorem xorOver_xor (ks : List Nat) (e f : Nat → Byte) :
    xorOver ks (fun k => e k ^^^ f k) = xorOver ks e ^^^ xorOver ks f := by
  induction ks with
  | nil => simp
  | cons k ks ih =>
    simp only [xorOver_cons, ih]
    ac_rfl

/-- The XOR over two lists of which the second holds the images of the first. -/
theorem xorOver_map (g : Nat → Nat) (ks : List Nat) (e : Nat → Byte) :
    xorOver (ks.map g) e = xorOver ks fun k => e (g k) := by
  rw [xorOver, xorOver, List.foldr_map]

/-! ## Times x -/

/-- The product of a and x, the element 2: what each round of R150 makes of a (`gfmul_two`). -/
def timesX (a : Byte) : Byte := if a.getLsbD 7 then (a <<< 1) ^^^ 0x1D else a <<< 1

theorem timesX_additive : XorAdditive timesX := by
  intro a b
  simp only [timesX, BitVec.getLsbD_xor, BitVec.shiftLeft_xor_distrib, xor_ite_xor]

theorem timesX_iterate_additive (k : Nat) : XorAdditive timesX^[k] := by
  induction k with
  | zero => exact fun _ _ => rfl
  | succ k ih => exact ih.comp timesX_additive

/-! ## The product as a sum -/

/-- a times x^i where bit i of b is 1: the contribution of that bit to the product of a and b. -/
def bitTerm (a b : Byte) (i : Nat) : Byte := if b.getLsbD i then timesX^[i] a else 0

theorem bitTerm_zero_index (a b : Byte) : bitTerm a b 0 = if b.getLsbD 0 then a else 0 := rfl

/-- A round of R150 passes on the terms of the higher bits. -/
theorem bitTerm_succ (a b : Byte) (i : Nat) : bitTerm a b (i + 1) = bitTerm (timesX a) (b >>> 1) i := by
  simp [bitTerm, Nat.add_comm]

/-- k rounds of R150 add the terms of the k low bits of b. -/
theorem gfmulLoop_eq_xorOver (k : Nat) (p a b : Byte) :
    gfmulLoop k p a b = p ^^^ xorOver (List.range k) (bitTerm a b) := by
  induction k generalizing p a b with
  | zero => simp [gfmulLoop]
  | succ k ih =>
    have hround : gfmulLoop (k + 1) p a b =
        gfmulLoop k (if b.getLsbD 0 then p ^^^ a else p) (timesX a) (b >>> 1) := rfl
    rw [hround, ih, List.range_succ_eq_map, xorOver_cons, xorOver_map, bitTerm_zero_index]
    simp only [Nat.succ_eq_add_one, bitTerm_succ]
    cases b.getLsbD 0 <;> simp [BitVec.xor_assoc]

theorem gfmul_eq_xorOver (a b : Byte) : gfmul a b = xorOver (List.range 8) (bitTerm a b) :=
  (gfmulLoop_eq_xorOver 8 0 a b).trans BitVec.zero_xor

/-! ## The ring laws (R155) -/

theorem gfmul_left_additive (c : Byte) : XorAdditive fun a => gfmul a c := by
  intro a b
  have hterm : bitTerm (a ^^^ b) c = fun i => bitTerm a c i ^^^ bitTerm b c i := by
    funext i
    unfold bitTerm
    split
    · exact timesX_iterate_additive i a b
    · simp
  simp only [gfmul_eq_xorOver, hterm, xorOver_xor]

/-- An additive function that commutes with x commutes with every multiplier, a sum of powers of x. -/
theorem gfmul_map_left {f : Byte → Byte} (hf : XorAdditive f) (hx : Function.Commute f timesX) (a b : Byte) :
    gfmul (f a) b = f (gfmul a b) := by
  have hterm (i : Nat) : f (bitTerm a b i) = bitTerm (f a) b i := by
    unfold bitTerm
    split
    · exact hx.iterate_right i a
    · exact hf.map_zero
  simp only [gfmul_eq_xorOver, hf.map_xorOver, hterm]

theorem gfmul_timesX_left (a b : Byte) : gfmul (timesX a) b = timesX (gfmul a b) :=
  gfmul_map_left timesX_additive (fun _ => rfl) a b

/-- Two multipliers commute. -/
theorem gfmul_right_comm (a b c : Byte) : gfmul (gfmul a b) c = gfmul (gfmul a c) b :=
  (gfmul_map_left (gfmul_left_additive c) (fun d => gfmul_timesX_left d c) a b).symm

/-- The powers of x below x^8 are the single bits, so 1 times b puts b together bit by bit. -/
theorem gfmul_one_left : ∀ b : Byte, gfmul 1 b = b := by decide +kernel

theorem gfmul_comm (a b : Byte) : gfmul a b = gfmul b a :=
  calc gfmul a b = gfmul (gfmul 1 a) b := by rw [gfmul_one_left]
    _ = gfmul (gfmul 1 b) a := gfmul_right_comm 1 a b
    _ = gfmul b a := by rw [gfmul_one_left]

theorem gfmul_assoc (a b c : Byte) : gfmul (gfmul a b) c = gfmul a (gfmul b c) :=
  calc gfmul (gfmul a b) c = gfmul (gfmul b a) c := by rw [gfmul_comm a]
    _ = gfmul (gfmul b c) a := gfmul_right_comm b a c
    _ = gfmul a (gfmul b c) := gfmul_comm _ _

theorem gfmul_xor_right (a b c : Byte) : gfmul a (b ^^^ c) = gfmul a b ^^^ gfmul a c := by
  simp only [gfmul_comm a]
  exact gfmul_left_additive a b c

theorem gfmul_one_right (a : Byte) : gfmul a 1 = a := by rw [gfmul_comm, gfmul_one_left]

theorem gfmul_zero_left (a : Byte) : gfmul 0 a = 0 := (gfmul_left_additive a).map_zero

theorem gfmul_zero_right (a : Byte) : gfmul a 0 = 0 := by rw [gfmul_comm, gfmul_zero_left]

/-! ## The powers of x -/

theorem gfmul_two : gfmul 2 = timesX := by
  funext a
  calc gfmul 2 a = gfmul (timesX 1) a := rfl
    _ = timesX (gfmul 1 a) := gfmul_timesX_left 1 a
    _ = timesX a := by rw [gfmul_one_left]

theorem gfmul_timesX_iterate_left (k : Nat) (a b : Byte) : gfmul (timesX^[k] a) b = timesX^[k] (gfmul a b) :=
  gfmul_map_left (timesX_iterate_additive k) ((Function.Commute.refl timesX).iterate_left k) a b

/-- A divisor of 255 other than 255 itself leaves out one of its primes 3, 5 and 17. -/
theorem dvd_255 {d : Nat} (h : d ∣ 255) : d = 255 ∨ d ∣ 85 ∨ d ∣ 51 ∨ d ∣ 15 := by
  have hall : ∀ e ∈ Nat.divisors 255, e = 255 ∨ e ∣ 85 ∨ e ∣ 51 ∨ e ∣ 15 := by decide
  exact hall d (Nat.mem_divisors.mpr ⟨h, by decide⟩)

/-- x has order 255: its power x^255 is 1, and none of x^85, x^51 and x^15 is. -/
theorem minimalPeriod_timesX : Function.minimalPeriod timesX 1 = 255 := by
  have h255 : timesX^[255] 1 = 1 := by decide +kernel
  have h85 : timesX^[85] 1 ≠ 1 := by decide +kernel
  have h51 : timesX^[51] 1 ≠ 1 := by decide +kernel
  have h15 : timesX^[15] 1 ≠ 1 := by decide +kernel
  have hdvd : Function.minimalPeriod timesX 1 ∣ 255 := Function.IsPeriodicPt.minimalPeriod_dvd h255
  have hnot {n : Nat} (hn : timesX^[n] 1 ≠ 1) : ¬Function.minimalPeriod timesX 1 ∣ n :=
    mt Function.isPeriodicPt_iff_minimalPeriod_dvd.mpr hn
  exact (dvd_255 hdvd).resolve_right (not_or.mpr ⟨hnot h85, not_or.mpr ⟨hnot h51, hnot h15⟩⟩)

theorem timesX_iterate_255 : timesX^[255] 1 = 1 := by
  rw [← minimalPeriod_timesX, Function.iterate_minimalPeriod]

theorem timesX_iterate_complement {k : Nat} (hk : k ≤ 255) : timesX^[255 - k] (timesX^[k] 1) = 1 := by
  rw [← Function.iterate_add_apply, Nat.sub_add_cancel hk, timesX_iterate_255]

/-- The 255 powers of x are distinct and not 0, so they are all the elements but 0. -/
theorem exists_timesX_iterate {a : Byte} (ha : a ≠ 0) : ∃ k < 255, timesX^[k] 1 = a := by
  have hinj : Set.InjOn (fun k => timesX^[k] (1 : Byte)) (Finset.range 255) := by
    rw [Finset.coe_range, ← minimalPeriod_timesX]
    exact Function.iterate_injOn_Iio_minimalPeriod
  have hsub : (Finset.range 255).image (fun k => timesX^[k] (1 : Byte)) ⊆ Finset.univ.erase 0 := by
    intro c hc
    obtain ⟨k, hk, rfl⟩ := Finset.mem_image.mp hc
    refine Finset.mem_erase.mpr ⟨fun hzero => ?_, Finset.mem_univ _⟩
    have hone := timesX_iterate_complement (Finset.mem_range.mp hk).le
    rw [hzero, (timesX_iterate_additive _).map_zero] at hone
    exact absurd hone (by decide)
  have hcard : (Finset.univ.erase (0 : Byte)).card ≤
      ((Finset.range 255).image fun k => timesX^[k] (1 : Byte)).card := by
    rw [Finset.card_image_of_injOn hinj, Finset.card_erase_of_mem (Finset.mem_univ _), Finset.card_range,
      Finset.card_univ, ← FinEnum.card_eq_fintypeCard, FinEnum.card_bitVec]
    exact Nat.le_refl 255
  have hmem : a ∈ (Finset.range 255).image fun k => timesX^[k] (1 : Byte) := by
    rw [Finset.eq_of_subset_of_card_le hsub hcard]
    exact Finset.mem_erase.mpr ⟨ha, Finset.mem_univ _⟩
  simpa using hmem

/-! ## Inverses (R152) -/

/-- x^k has the inverse x^(255-k). -/
theorem exists_inverse {a : Byte} (ha : a ≠ 0) : ∃ b, gfmul a b = 1 := by
  obtain ⟨k, hk, rfl⟩ := exists_timesX_iterate ha
  refine ⟨timesX^[255 - k] 1, ?_⟩
  rw [gfmul_comm, gfmul_timesX_iterate_left, gfmul_one_left, timesX_iterate_complement hk.le]

theorem ne_zero_of_gfmul_eq_one {a b : Byte} (h : gfmul a b = 1) : a ≠ 0 ∧ b ≠ 0 := by
  constructor
  · rintro rfl
    rw [gfmul_zero_left] at h
    exact absurd h (by decide)
  · rintro rfl
    rw [gfmul_zero_right] at h
    exact absurd h (by decide)

theorem inverse_unique {a b c : Byte} (hb : gfmul a b = 1) (hc : gfmul a c = 1) : b = c :=
  calc b = gfmul (gfmul a c) b := by rw [hc, gfmul_one_left]
    _ = gfmul (gfmul a b) c := gfmul_right_comm a c b
    _ = c := by rw [hb, gfmul_one_left]

/-- The search of R152 answers with an inverse. -/
theorem gfmul_of_gfinvSearch_eq_some {a b : Byte} (k x0 : Nat) (h : gfinvSearch a k x0 = some b) :
    gfmul a b = 1 := by
  induction k generalizing x0 with
  | zero => simp [gfinvSearch] at h
  | succ k ih =>
    rw [gfinvSearch] at h
    split at h
    · next hhit => rwa [← Option.some.inj h]
    · exact ih _ h

/-- The search of R152 misses no inverse among its k candidates. -/
theorem gfinvSearch_ne_none {a : Byte} {n : Nat} (k x0 : Nat) (hlo : x0 ≤ n) (hhi : n < x0 + k)
    (hn : gfmul a (BitVec.ofNat 8 n) = 1) : gfinvSearch a k x0 ≠ none := by
  induction k generalizing x0 with
  | zero => omega
  | succ k ih =>
    rw [gfinvSearch]
    split
    · exact Option.some_ne_none _
    · next hmiss =>
      have hne : x0 ≠ n := fun heq => hmiss (heq ▸ hn)
      exact ih _ (by omega) (by omega)

/-- An inverse of a is the one that R152 finds. -/
theorem gfinv_eq_of_gfmul_eq_one {a b : Byte} (h : gfmul a b = 1) : gfinv a = b := by
  have hpos : b.toNat ≠ 0 := fun h0 => (ne_zero_of_gfmul_eq_one h).2 (BitVec.eq_of_toNat_eq h0)
  have hfound : gfinvSearch a 255 1 ≠ none :=
    gfinvSearch_ne_none 255 1 (n := b.toNat) (by omega) b.isLt (by rwa [BitVec.ofNat_toNat, BitVec.setWidth_eq])
  obtain ⟨c, hc⟩ := Option.ne_none_iff_exists'.mp hfound
  rw [gfinv, hc, Option.getD_some]
  exact inverse_unique (gfmul_of_gfinvSearch_eq_some _ _ hc) h

theorem gfmul_gfinv {a : Byte} (ha : a ≠ 0) : gfmul a (gfinv a) = 1 := by
  obtain ⟨b, hb⟩ := exists_inverse ha
  rwa [gfinv_eq_of_gfmul_eq_one hb]

theorem gfinv_gfinv {a : Byte} (ha : a ≠ 0) : gfinv (gfinv a) = a :=
  gfinv_eq_of_gfmul_eq_one ((gfmul_comm _ _).trans (gfmul_gfinv ha))

/-- There are no zero divisors: multiplying by the inverse of a undoes multiplying by a. -/
theorem eq_zero_of_gfmul_eq_zero {a b : Byte} (h : gfmul a b = 0) : a = 0 ∨ b = 0 := by
  refine or_iff_not_imp_left.mpr fun ha => ?_
  calc b = gfmul (gfmul a (gfinv a)) b := by rw [gfmul_gfinv ha, gfmul_one_left]
    _ = gfmul (gfmul a b) (gfinv a) := gfmul_right_comm a _ b
    _ = 0 := by rw [h, gfmul_zero_left]

/-- Settles O49: the ring laws from the product as a sum of powers of x, the inverses from the order of x. -/
theorem fieldLawsHold : Obligations.FieldLawsHold := by
  refine ⟨gfmul_comm, gfmul_assoc, gfmul_xor_right, gfmul_one_right, gfmul_zero_right,
    fun _ _ => eq_zero_of_gfmul_eq_zero, fun _ => gfmul_gfinv, fun _ => gfinv_gfinv, ?_⟩
  rw [gfmul_two]
  refine ⟨timesX_iterate_255, fun k hpos hlt => ?_⟩
  exact Function.not_isPeriodicPt_of_pos_of_lt_minimalPeriod hpos.ne' (minimalPeriod_timesX ▸ hlt)

/-! ## The polynomial product (R151) -/

theorem setWidth_additive (m n : Nat) : XorAdditive (BitVec.setWidth n : BitVec m → BitVec n) :=
  fun _ _ => BitVec.setWidth_xor

theorem cancelTerm_additive (i : Nat) : XorAdditive fun v => cancelTerm v i := by
  intro u v
  simp only [cancelTerm, BitVec.getLsbD_xor, xor_ite_xor]

theorem foldl_cancelTerm_additive (is : List Nat) : XorAdditive fun v => is.foldl cancelTerm v := by
  induction is with
  | nil => exact fun _ _ => rfl
  | cons i is ih => exact ih.comp (cancelTerm_additive i)

theorem polyMod_additive : XorAdditive polyMod :=
  (setWidth_additive 15 8).comp (foldl_cancelTerm_additive _)

/-- Cancelling a term and shifting commute. -/
theorem cancelTerm_shiftLeft_one (v : BitVec 15) {i : Nat} (hi : i < 6) :
    cancelTerm (v <<< 1) (i + 1) = cancelTerm v i <<< 1 := by
  have hbit : (v <<< 1).getLsbD (8 + (i + 1)) = v.getLsbD (8 + i) := by
    rw [BitVec.getLsbD_shiftLeft, decide_eq_true (show 8 + (i + 1) < 15 by omega)]
    simp [← Nat.add_assoc]
  simp only [cancelTerm, hbit]
  split
  · rw [BitVec.shiftLeft_xor_distrib, BitVec.shiftLeft_add]
  · rfl

theorem foldl_cancelTerm_shiftLeft_one (is : List Nat) (his : ∀ i ∈ is, i < 6) (v : BitVec 15) :
    (is.map (· + 1)).foldl cancelTerm (v <<< 1) = is.foldl cancelTerm v <<< 1 := by
  induction is generalizing v with
  | nil => rfl
  | cons i is ih =>
    obtain ⟨hi, htail⟩ := List.forall_mem_cons.mp his
    rw [List.map_cons, List.foldl_cons, cancelTerm_shiftLeft_one v hi, ih htail, List.foldl_cons]

/-- The last step of the division, for the term x^8, is the reduction by 0x1D in "times x". -/
theorem setWidth_cancelTerm_zero (v : BitVec 15) :
    (cancelTerm (v <<< 1) 0).setWidth 8 = timesX (v.setWidth 8) := by
  have hshift : (v <<< 1).setWidth 8 = v.setWidth 8 <<< 1 := BitVec.setWidth_shiftLeft_of_le (by decide)
  have hbit : (v <<< 1).getLsbD 8 = (v.setWidth 8).getLsbD 7 := by simp
  simp only [cancelTerm, timesX, Nat.add_zero, hbit]
  split
  · rw [BitVec.setWidth_xor, hshift]
    rfl
  · exact hshift

/-- Shifting a polynomial of degree at most 13 is multiplying its remainder by x. -/
theorem polyMod_shiftLeft_one (v : BitVec 15) (h : v.getLsbD 14 = false) :
    polyMod (v <<< 1) = timesX (polyMod v) := by
  have hdegree : cancelTerm v 6 = v := by rw [cancelTerm, h, if_neg Bool.false_ne_true]
  have hmod : polyMod v = ([5, 4, 3, 2, 1, 0].foldl cancelTerm v).setWidth 8 := by
    rw [polyMod, List.foldl_cons, hdegree]
  calc polyMod (v <<< 1)
      = (cancelTerm (([5, 4, 3, 2, 1, 0].map (· + 1)).foldl cancelTerm (v <<< 1)) 0).setWidth 8 := rfl
    _ = timesX (([5, 4, 3, 2, 1, 0].foldl cancelTerm v).setWidth 8) := by
      rw [foldl_cancelTerm_shiftLeft_one _ (by decide), setWidth_cancelTerm_zero]
    _ = timesX (polyMod v) := by rw [hmod]

/-- A byte is its own remainder. -/
theorem polyMod_setWidth (a : Byte) : polyMod (a.setWidth 15) = a := by
  have hdegree (i : Nat) : cancelTerm (a.setWidth 15) i = a.setWidth 15 := by simp [cancelTerm]
  simp [polyMod, hdegree]

theorem polyMod_shiftLeft (a : Byte) {i : Nat} (hi : i < 8) :
    polyMod (a.setWidth 15 <<< i) = timesX^[i] a := by
  induction i with
  | zero => simpa using polyMod_setWidth a
  | succ i ih =>
    have hdegree : (a.setWidth 15 <<< i).getLsbD 14 = false := by
      have hhigh : a.getLsbD (14 - i) = false := BitVec.getLsbD_of_ge _ _ (by omega)
      simp [hhigh]
    rw [BitVec.shiftLeft_add, polyMod_shiftLeft_one _ hdegree, ih (by omega), Function.iterate_succ_apply']

/-- The remainder of a carry-less product is the sum of the remainders of its terms. -/
theorem polyMod_foldl (a b : Byte) (is : List Nat) (his : ∀ i ∈ is, i < 8) (acc : BitVec 15) :
    polyMod (is.foldl (fun v i => if b.getLsbD i then v ^^^ (a.setWidth 15 <<< i) else v) acc) =
      polyMod acc ^^^ xorOver is (bitTerm a b) := by
  induction is generalizing acc with
  | nil => simp
  | cons i is ih =>
    obtain ⟨hi, htail⟩ := List.forall_mem_cons.mp his
    rw [List.foldl_cons, ih htail, xorOver_cons, bitTerm]
    split
    · rw [polyMod_additive, polyMod_shiftLeft a hi, BitVec.xor_assoc]
    · exact congrArg _ BitVec.zero_xor.symm

/-- Settles O48: both products are the sum, over the bits of b, of a times a power of x. -/
theorem gfmulIsPolynomialProduct : Obligations.GfmulIsPolynomialProduct := by
  intro a b
  rw [polyMul, clmul, polyMod_foldl a b _ fun _ => List.mem_range.mp, polyMod_additive.map_zero,
    gfmul_eq_xorOver]
  exact BitVec.zero_xor.symm

/-! ## GF_MUL and GF_INV (R153, R154) -/

/-- Settles O50: GF_MUL makes no check, and the product it writes is the polynomial one (O48). -/
theorem gfMulWritesTheProduct : Obligations.GfMulWritesTheProduct := by
  intro s a b
  rw [exec_eq_finish, checks, finish_nil, writes, gfmulIsPolynomialProduct]
  rfl

/-- GF_INV of an element other than 0 passes its one check. -/
theorem exec_gfInv_of_ne_zero (s : State) {a : Byte} (ha : a ≠ 0) :
    exec (.gfInv a) s = .next ((writes (.gfInv a) s).complete .ok) := by
  rw [exec_eq_finish, checks, decide_eq_true ha, finish_cons_true, finish_nil]
  rfl

/-- Settles O51: an a with an inverse is not 0, and its inverse is the one the search finds; 0 fails the
check. -/
theorem gfInvWritesTheInverse : Obligations.GfInvWritesTheInverse := by
  refine ⟨fun a ha => ?_, fun s a x hx => ?_, fun s => ?_⟩
  · obtain ⟨x, hx⟩ := exists_inverse ha
    exact ⟨x, (ne_zero_of_gfmul_eq_one hx).2, hx⟩
  · rw [exec_gfInv_of_ne_zero s (ne_zero_of_gfmul_eq_one hx).1, writes, gfinv_eq_of_gfmul_eq_one hx]
    rfl
  · rw [exec_eq_finish, checks]
    rfl

end Sys2Proof.Proofs.Galois

/-! # The RAID 6 commands (44_raid6.md R160 to R167)

The parity of all data bytes, XORed with that of the surviving lanes, is that of the erased bytes
(`xorOver_range_xor_dataWithout`). For one erased lane this is the byte; for two it gives the equations of R163,
whose solution is unique because the coefficients differ. -/

namespace Sys2Proof.Proofs.Raid6

open Sys2Proof.Machine Sys2Proof.Proofs.Commands Sys2Proof.Proofs.Checker Sys2Proof.Proofs.Galois

/-! ## The data lanes and their coefficients (R160) -/

section
variable (s : State)

theorem dataWithout_nil : dataWithout s [] = List.range (s.acfg.n.toNat - 2) := by
  simp [dataWithout, diskSet, State.dataLanes, State.disks]

theorem dataWithout_singleton (t : Nat) :
    dataWithout s [t] = (List.range (s.acfg.n.toNat - 2)).filter (· ≠ t) := by
  simp [dataWithout, diskSet, State.dataLanes, State.disks]

theorem dataWithout_pair (t o : Nat) :
    dataWithout s [t, o] = (List.range (s.acfg.n.toNat - 2)).filter (fun k => k ≠ t ∧ k ≠ o) := by
  simp [dataWithout, diskSet, State.dataLanes, State.disks]

theorem mem_dataWithout (erased : List Nat) (k : Nat) :
    k ∈ dataWithout s erased ↔ k < s.acfg.n.toNat - 2 ∧ k ∉ erased := by
  simp [dataWithout, State.dataLanes, State.disks]

theorem mem_zeroLanes (k : Nat) : k ∈ zeroLanes s ↔ k < s.acfg.n.toNat - 2 ∧ s.lane k = 0 := by
  simp [zeroLanes, State.dataLanes, State.disks]

/-- The number of zero data lanes is that of R165's set Z. -/
theorem length_zeroLanes :
    (zeroLanes s).length = ((Finset.range (s.acfg.n.toNat - 2)).filter (fun k => s.lane k = 0)).card := by
  simp [zeroLanes, length_diskSet, State.dataLanes, State.disks]

end

theorem dataLane_lt {s : State} {k : Nat} (hk : k < s.acfg.n.toNat - 2) : k < 254 := by
  have hn : s.acfg.n.toNat < 256 := s.acfg.n.isLt
  omega

theorem qCoeff_toNat (t : Byte) : qCoeff t.toNat = t + 1 := by
  simp [qCoeff, BitVec.ofNat_add]

/-- The coefficient of a data lane is not 0 (R160). -/
theorem qCoeff_ne_zero {t : Nat} (ht : t < 254) : qCoeff t ≠ 0 := by
  rw [qCoeff]
  bv_omega

/-- The coefficients of two data lanes differ (R160). -/
theorem coeffA_ne_zero {t o : Nat} (ht : t < 254) (ho : o < 254) (hne : t ≠ o) : coeffA t o ≠ 0 := by
  refine mt BitVec.xor_eq_zero_iff.mp ?_
  rw [qCoeff, qCoeff]
  bv_omega

/-! ## The parity of the erased lanes (R166) -/

/-- The XOR over the data lanes, split into the erased and the others. -/
theorem xorOver_range_eq_erased_xor {s : State} {erased : List Nat} (hnodup : erased.Nodup)
    (hlt : ∀ k ∈ erased, k < s.acfg.n.toNat - 2) (e : Nat → Byte) :
    xorOver (List.range (s.acfg.n.toNat - 2)) e = xorOver erased e ^^^ xorOver (dataWithout s erased) e := by
  have hsplit : (erased ++ dataWithout s erased).Nodup :=
    hnodup.append (List.nodup_range.filter _) fun k hk hk' => ((mem_dataWithout s erased k).mp hk').2 hk
  have hperm : (List.range (s.acfg.n.toNat - 2)).Perm (erased ++ dataWithout s erased) := by
    refine (List.perm_ext_iff_of_nodup List.nodup_range hsplit).mpr fun k => ?_
    rw [List.mem_range, List.mem_append, mem_dataWithout]
    by_cases hk : k ∈ erased
    · simp [hk, hlt k hk]
    · simp [hk]
  rw [xorOver_perm hperm, xorOver_append]

/-- The true parity and the XOR of surviving lanes that hold their true bytes leave that of the erased bytes. -/
theorem xorOver_range_xor_dataWithout {s : State} {erased : List Nat} (hnodup : erased.Nodup)
    (hlt : ∀ k ∈ erased, k < s.acfg.n.toNat - 2) {e f : Nat → Byte}
    (hf : ∀ k, k < s.acfg.n.toNat - 2 → k ∉ erased → f k = e k) :
    xorOver (List.range (s.acfg.n.toNat - 2)) e ^^^ xorOver (dataWithout s erased) f = xorOver erased e := by
  have hsurvivors : xorOver (dataWithout s erased) f = xorOver (dataWithout s erased) e := by
    refine xorOver_congr fun k hk => ?_
    obtain ⟨hkn, hkept⟩ := (mem_dataWithout s erased k).mp hk
    exact hf k hkn hkept
  rw [hsurvivors, xorOver_range_eq_erased_xor hnodup hlt, BitVec.xor_assoc, BitVec.xor_self, BitVec.xor_zero]

section
variable {s : State} {d : Nat → Byte} {t o : Nat}

/-- With one lane erased, the rebuild of R162 is its true byte. -/
theorem rebuildFromP_of_intact (ht : t < s.acfg.n.toNat - 2) (hparity : ParityIntact s d)
    (hdata : DataTrueExcept s d [t]) : rebuildFromP s t = d t := by
  have hp : s.pLane = xorOver (List.range (s.acfg.n.toNat - 2)) d := hparity.1
  rw [rebuildFromP, hp, pOf, xorOver_range_xor_dataWithout (by simp) (by simpa using ht) hdata]
  simp

/-- The b of R163 is the XOR of the two erased bytes. -/
theorem solveB_of_intact (ht : t < s.acfg.n.toNat - 2) (ho : o < s.acfg.n.toNat - 2) (hne : t ≠ o)
    (hparity : ParityIntact s d) (hdata : DataTrueExcept s d [t, o]) : d t ^^^ d o = solveB s t o := by
  have hp : s.pLane = xorOver (List.range (s.acfg.n.toNat - 2)) d := hparity.1
  rw [solveB, hp, pOf, xorOver_range_xor_dataWithout (by simpa using hne) (by simpa using ⟨ht, ho⟩) hdata]
  simp

/-- The c of R163 is the weighted XOR of the two erased bytes. -/
theorem solveC_of_intact (ht : t < s.acfg.n.toNat - 2) (ho : o < s.acfg.n.toNat - 2) (hne : t ≠ o)
    (hparity : ParityIntact s d) (hdata : DataTrueExcept s d [t, o]) :
    gfmul (qCoeff t) (d t) ^^^ gfmul (qCoeff o) (d o) = solveC s t o := by
  have hq : s.qLane = xorOver (List.range (s.acfg.n.toNat - 2)) fun k => gfmul (qCoeff k) (d k) := hparity.2
  have hweighted : ∀ k, k < s.acfg.n.toNat - 2 → k ∉ [t, o] →
      gfmul (qCoeff k) (s.lane k) = gfmul (qCoeff k) (d k) :=
    fun k hk hkept => congrArg _ (hdata k hk hkept)
  rw [solveC, hq, qOf, xorOver_range_xor_dataWithout (by simpa using hne) (by simpa using ⟨ht, ho⟩) hweighted]
  simp

end

/-! ## The solve and the source's formula (R163, R164) -/

/-- Dividing by a: the product with its inverse. -/
theorem gfmul_gfinv_eq_iff {a c y : Byte} (ha : a ≠ 0) : gfmul c (gfinv a) = y ↔ c = gfmul a y := by
  constructor
  · rintro rfl
    rw [gfmul_comm c, ← gfmul_assoc, gfmul_gfinv ha, gfmul_one_left]
  · rintro rfl
    rw [gfmul_right_comm, gfmul_gfinv ha, gfmul_one_left]

theorem gfmul_xor_left (a b c : Byte) : gfmul (a ^^^ b) c = gfmul a c ^^^ gfmul b c :=
  gfmul_left_additive c a b

theorem xor_xor_cancel (x y : Byte) : x ^^^ y ^^^ x = y := by
  rw [BitVec.xor_comm x, BitVec.xor_assoc, BitVec.xor_self, BitVec.xor_zero]

section
variable {s : State} {t o : Nat} {x y : Byte}

/-- A solution of the two equations has x = dt: c xor g(o)*b is A*x. -/
theorem solveT_eq_of_equations (hA : coeffA t o ≠ 0) (hb : x ^^^ y = solveB s t o)
    (hc : gfmul (qCoeff t) x ^^^ gfmul (qCoeff o) y = solveC s t o) : solveT s t o = x := by
  rw [solveT, gfmul_gfinv_eq_iff hA, ← hb, ← hc, coeffA, gfmul_xor_right, gfmul_xor_left]
  generalize gfmul (qCoeff t) x = gx, gfmul (qCoeff o) x = hx, gfmul (qCoeff o) y = hy
  calc gx ^^^ hy ^^^ (hx ^^^ hy) = hy ^^^ (gx ^^^ hx) ^^^ hy := by ac_rfl
    _ = gx ^^^ hx := xor_xor_cancel _ _

/-- The source's formula gives x exactly where c is A*y, so g(t)*x is g(t)*y. -/
theorem sourceFormula_eq_iff (hA : coeffA t o ≠ 0) (ht : qCoeff t ≠ 0) (hb : x ^^^ y = solveB s t o)
    (hc : gfmul (qCoeff t) x ^^^ gfmul (qCoeff o) y = solveC s t o) : sourceFormula s t o = x ↔ x = y := by
  have hx : y ^^^ solveB s t o = x := by rw [← hb, ← BitVec.xor_assoc, xor_xor_cancel]
  calc sourceFormula s t o = x
      ↔ gfmul (solveC s t o) (gfinv (coeffA t o)) ^^^ solveB s t o = y ^^^ solveB s t o := by
        rw [hx, sourceFormula]
    _ ↔ gfmul (solveC s t o) (gfinv (coeffA t o)) = y := BitVec.xor_left_inj _
    _ ↔ gfmul (qCoeff t) x ^^^ gfmul (qCoeff o) y = gfmul (qCoeff t) y ^^^ gfmul (qCoeff o) y := by
        rw [gfmul_gfinv_eq_iff hA, ← hc, coeffA, gfmul_xor_left]
    _ ↔ gfmul (qCoeff t) x = gfmul (qCoeff t) y := BitVec.xor_left_inj _
    _ ↔ x = y := by
        refine ⟨fun h => ?_, congrArg _⟩
        rw [← BitVec.xor_eq_zero_iff, ← gfmul_xor_right] at h
        exact BitVec.xor_eq_zero_iff.mp ((eq_zero_of_gfmul_eq_zero h).resolve_left ht)

end

/-! ## R6_PQ and R6_REC1 (R161, R162) -/

/-- Settles O52: the lanes encoded are all data lanes. -/
theorem r6PqEncodes : Obligations.R6PqEncodes := by
  intro s h
  rw [exec_of_checks_pass (l := .raid6) h rfl (by simp), writes, dataWithout_nil]
  rfl

theorem exec_r6Rec1 {s : State} {t : Byte} (h : ActiveAt s 0x06) (ht : t.toNat < s.acfg.n.toNat - 2) :
    exec (.r6Rec1 t) s = .next { s with
      status := s.doneStatus 0x00, res0 := byteResult (rebuildFromP s t.toNat) } :=
  exec_of_checks_pass (l := .raid6) h rfl (by simpa using (isDataLane_iff s t).mpr ht)

/-- Settles O53: with t a data lane every check passes, and the lanes XORed with P are the others. -/
theorem r6Rec1RebuildsFromP : Obligations.R6Rec1RebuildsFromP := by
  intro s t h ht
  rw [exec_r6Rec1 h ht, rebuildFromP, dataWithout_singleton]
  rfl

/-! ## R6_REC2 and R6_REC2_SRC (R163, R164) -/

theorem coeffA_toNat_ne_zero {s : State} {t o : Byte} (ht : t.toNat < s.acfg.n.toNat - 2)
    (ho : o.toNat < s.acfg.n.toNat - 2) (hne : t ≠ o) : coeffA t.toNat o.toNat ≠ 0 :=
  coeffA_ne_zero (dataLane_lt ht) (dataLane_lt ho) (mt BitVec.eq_of_toNat_eq hne)

section
variable {s : State} {t o : Byte} (h : ActiveAt s 0x06) (ht : t.toNat < s.acfg.n.toNat - 2)
  (ho : o.toNat < s.acfg.n.toNat - 2) (hne : t ≠ o)
include h ht ho hne

theorem exec_r6Rec2 : exec (.r6Rec2 t o) s = .next { s with
    status := s.doneStatus 0x00
    res0 := byteResult (solveT s t.toNat o.toNat)
    res1 := byteResult (solveB s t.toNat o.toNat ^^^ solveT s t.toNat o.toNat) } :=
  exec_of_checks_pass (l := .raid6) h rfl (by simpa using (areTwoDataLanes_iff s t o).mpr ⟨ht, ho, hne⟩)

theorem exec_r6Rec2Src : exec (.r6Rec2Src t o) s = .next { s with
    status := s.doneStatus 0x00
    res0 := byteResult (sourceFormula s t.toNat o.toNat)
    res1 := byteResult (sourceFormula s t.toNat o.toNat) } :=
  exec_of_checks_pass (l := .raid6) h rfl (by simpa using (areTwoDataLanes_iff s t o).mpr ⟨ht, ho, hne⟩)

/-- R6_REC2 writes the solution of the two equations. -/
theorem exec_r6Rec2_of_equations {x y : Byte} (hb : x ^^^ y = solveB s t.toNat o.toNat)
    (hc : gfmul (qCoeff t.toNat) x ^^^ gfmul (qCoeff o.toNat) y = solveC s t.toNat o.toNat) :
    exec (.r6Rec2 t o) s = .next { s with
      status := s.doneStatus 0x00, res0 := byteResult x, res1 := byteResult y } := by
  have hx : solveT s t.toNat o.toNat = x :=
    solveT_eq_of_equations (coeffA_toNat_ne_zero ht ho hne) hb hc
  have hy : solveB s t.toNat o.toNat ^^^ x = y := by rw [← hb, xor_xor_cancel]
  rw [exec_r6Rec2 h ht ho hne, hx, hy]

end

/-- Settles O54: the equations are those of `exec_r6Rec2_of_equations`, with the survivors written as a filter. -/
theorem r6Rec2SolvesBothEquations : Obligations.R6Rec2SolvesBothEquations := by
  intro s t o x y h ht ho hne hb hc
  rw [← dataWithout_pair] at hb hc
  rw [← qCoeff_toNat, ← qCoeff_toNat] at hc
  exact exec_r6Rec2_of_equations h ht ho hne hb hc

/-- Settles O55: the true bytes satisfy the two equations. -/
theorem r6Rec2RecoversBothBytes : Obligations.R6Rec2RecoversBothBytes := by
  intro s t o d h ht ho hne hparity hdata
  have hnat : t.toNat ≠ o.toNat := mt BitVec.eq_of_toNat_eq hne
  exact exec_r6Rec2_of_equations h ht ho hne (solveB_of_intact ht ho hnat hparity hdata)
    (solveC_of_intact ht ho hnat hparity hdata)

/-- Settles O56: both registers get the formula of `sourceFormula`, with g(t) and g(o) written as t + 1 and o + 1. -/
theorem r6Rec2SrcWritesTheSourceFormula : Obligations.R6Rec2SrcWritesTheSourceFormula := by
  intro s t o b c h ht ho hne hb hc
  rw [← dataWithout_pair] at hb hc
  obtain rfl : b = solveB s t.toNat o.toNat := hb
  obtain rfl : c = solveC s t.toNat o.toNat := hc
  rw [exec_r6Rec2Src h ht ho hne, sourceFormula, coeffA, qCoeff_toNat, qCoeff_toNat]
  rfl

theorem byteResult_inj {a b : Byte} : byteResult a = byteResult b ↔ a = b := by
  refine ⟨fun h => ?_, congrArg _⟩
  simpa [byteResult] using congrArg (BitVec.setWidth 8) h

/-- Settles O57: the true bytes satisfy the two equations, and there the formula is right only for x = y. -/
theorem sourceFormulaIsRightOnlyForEqualBytes : Obligations.SourceFormulaIsRightOnlyForEqualBytes := by
  intro s t o d h ht ho hne hparity hdata
  have hnat : t.toNat ≠ o.toNat := mt BitVec.eq_of_toNat_eq hne
  refine ⟨_, exec_r6Rec2Src h ht ho hne, rfl, byteResult_inj.trans ?_⟩
  exact sourceFormula_eq_iff (coeffA_toNat_ne_zero ht ho hne) (qCoeff_ne_zero (dataLane_lt ht))
    (solveB_of_intact ht ho hnat hparity hdata) (solveC_of_intact ht ho hnat hparity hdata)

/-! ## R6_READ (R165) -/

/-- In a list of t and o alone, the element other than t is o. -/
theorem otherZeroLane_eq {zs : List Nat} {t o : Nat} (hmem : ∀ k, k ∈ zs ↔ k = t ∨ k = o) (hne : t ≠ o) :
    otherZeroLane zs t = o := by
  have hothers (k : Nat) : k ∈ zs.filter (fun k => decide (k ≠ t)) ↔ k = o := by
    rw [List.mem_filter, hmem, decide_eq_true_eq]
    constructor
    · rintro ⟨rfl | hko, hkt⟩
      · exact absurd rfl hkt
      · exact hko
    · rintro rfl
      exact ⟨.inr rfl, hne.symm⟩
  unfold otherZeroLane
  cases hlist : zs.filter (fun k => decide (k ≠ t)) with
  | nil => exact absurd ((hothers o).mpr rfl) (hlist ▸ List.not_mem_nil)
  | cons a rest => exact (hothers a).mp (hlist ▸ List.mem_cons_self)

section
variable {s : State} {t : Byte} (h : ActiveAt s 0x06) (ht : t.toNat < s.acfg.n.toNat - 2)
include h ht

/-- R6_READ makes its writes where lane t is not 0 or at most two data lanes are. -/
theorem exec_r6Read_of_recoverable (hread : s.lane t.toNat ≠ 0 ∨ (zeroLanes s).length ≤ 2) :
    exec (.r6Read t) s = .next ((s.putRead t.toNat).complete .ok) := by
  refine exec_of_checks_pass (l := .raid6) h rfl ?_
  simpa [(isDataLane_iff s t).mpr ht] using hread

theorem exec_r6Read_of_unrecoverable (hzero : s.lane t.toNat = 0) (hthree : 3 ≤ (zeroLanes s).length) :
    exec (.r6Read t) s = .next (s.completedWith 0x03) := by
  have hlane : isDataLane s t = true := (isDataLane_iff s t).mpr ht
  have hfails : (decide (s.lane t.toNat ≠ 0) || decide ((zeroLanes s).length ≤ 2)) = false := by
    simpa [hzero] using (by omega : 2 < (zeroLanes s).length)
  rw [exec_of_activeAt (l := .raid6) h rfl, hlane, hfails, finish_cons_true, finish_cons_false,
    State.complete_eq_completedWith]
  rfl

end

/-- Settles O58: |Z| is the number of zero data lanes, which chooses between the cases of the writes and the
failing check. -/
theorem r6ReadTakesTheRightPath : Obligations.R6ReadTakesTheRightPath := by
  intro s t z h ht hz
  have hlen : (zeroLanes s).length = z.card := by rw [hz, length_zeroLanes]
  refine ⟨fun hlane => ?_, fun hzero hcard => ?_, fun o hzero hpair hne => ?_, fun hzero hcard => ?_⟩
  · rw [exec_r6Read_of_recoverable h ht (.inl hlane), State.putRead, if_pos hlane, hlen]
    rfl
  · refine ⟨_, exec_r6Rec1 h ht, ?_⟩
    rw [exec_r6Read_of_recoverable h ht (.inr (by omega)), State.putRead, if_neg (by simpa using hzero),
      if_pos (by omega)]
    rfl
  · have hnat : t.toNat ≠ o.toNat := mt BitVec.eq_of_toNat_eq hne
    have hcard : z.card = 2 := by rw [hpair, Finset.card_pair hnat]
    have hmem (k : Nat) : k ∈ zeroLanes s ↔ k = t.toNat ∨ k = o.toNat := by
      simpa [mem_zeroLanes] using Finset.ext_iff.mp (hz.symm.trans hpair) k
    obtain ⟨ho, -⟩ := (mem_zeroLanes s _).mp ((hmem o.toNat).mpr (.inr rfl))
    refine ⟨_, exec_r6Rec2 h ht ho hne, ?_⟩
    rw [exec_r6Read_of_recoverable h ht (.inr (by omega)), State.putRead, if_neg (by simpa using hzero),
      if_neg (by omega), otherZeroLane_eq hmem hnat]
    rfl
  · exact exec_r6Read_of_unrecoverable h ht hzero (by omega)

/-- A set of two elements, seen from one of them. -/
theorem exists_eq_pair {z : Finset Nat} {t : Nat} (ht : t ∈ z) (hcard : z.card = 2) :
    ∃ o, t ≠ o ∧ z = {t, o} := by
  obtain ⟨a, b, hab, rfl⟩ := Finset.card_eq_two.mp hcard
  obtain rfl | rfl : t = a ∨ t = b := by simpa using ht
  · exact ⟨b, hab, rfl⟩
  · exact ⟨a, hab.symm, Finset.pair_comm a t⟩

/-- Settles O59: the lanes that read 0 are all that may be wrong, so on each path of R165 (O58) the byte read is
the lane itself, the rebuild of one erased lane, or the solve of two (O55). -/
theorem r6ReadReturnsTheTrueByte : Obligations.R6ReadReturnsTheTrueByte := by
  intro s t d h ht hparity hdata hcard
  obtain ⟨z, hz⟩ : ∃ z, z = (Finset.range (s.acfg.n.toNat - 2)).filter (fun k => s.lane k = 0) := ⟨_, rfl⟩
  rw [← hz] at hcard
  obtain ⟨hdirect, hrebuild, hsolve, -⟩ := r6ReadTakesTheRightPath s t z h ht hz
  have hmem (k : Nat) : k ∈ z ↔ k < s.acfg.n.toNat - 2 ∧ s.lane k = 0 := by
    rw [hz, Finset.mem_filter, Finset.mem_range]
  have htrue {erased : List Nat} (herased : ∀ k ∈ z, k ∈ erased) : DataTrueExcept s d erased :=
    fun k hk hkept => hdata k hk fun hzero => hkept (herased k ((hmem k).mpr ⟨hk, hzero⟩))
  by_cases hlane : s.lane t.toNat = 0
  · have htz : t.toNat ∈ z := (hmem _).mpr ⟨ht, hlane⟩
    have hpos : 0 < z.card := Finset.card_pos.mpr ⟨_, htz⟩
    obtain hone | htwo : z.card = 1 ∨ z.card = 2 := by omega
    · have hsingle : DataTrueExcept s d [t.toNat] :=
        htrue fun k hk => List.mem_singleton.mpr (Finset.card_le_one.mp hone.le k hk _ htz)
      obtain ⟨u, hu, hread⟩ := hrebuild hlane hone
      rw [exec_r6Rec1 h ht, rebuildFromP_of_intact ht hparity hsingle] at hu
      injection hu with hu
      subst hu
      exact ⟨_, hread, rfl, rfl⟩
    · obtain ⟨o, hne, hpair⟩ := exists_eq_pair htz htwo
      have ho : o < s.acfg.n.toNat - 2 := ((hmem o).mp (by simp [hpair])).1
      obtain ⟨o, rfl⟩ : ∃ b : Byte, b.toNat = o :=
        ⟨BitVec.ofNat 8 o, (BitVec.toNat_ofNat o 8).trans (Nat.mod_eq_of_lt ((dataLane_lt ho).trans (by decide)))⟩
      have hneByte : t ≠ o := fun heq => hne (congrArg _ heq)
      obtain ⟨u, hu, hread⟩ := hsolve o hlane hpair hneByte
      rw [r6Rec2RecoversBothBytes s t o d h ht ho hneByte hparity (htrue (by simp [hpair]))] at hu
      injection hu with hu
      subst hu
      exact ⟨_, hread, rfl, rfl⟩
  · exact ⟨_, hdirect hlane, rfl, congrArg byteResult (hdata _ ht hlane)⟩

end Sys2Proof.Proofs.Raid6

/-! # Errors are precise, and an idle block keeps its state (60_exceptions.md R203, R214) -/

namespace Sys2Proof.Proofs.Exceptions

open Sys2Proof.Machine Sys2Proof.Proofs.Commands Sys2Proof.Proofs.Encoding

/-! ## Errors (R203) -/

/-- Only CONFIG, and XP_EVAL with UNRECOVERABLE, report an error once every check has passed. -/
theorem code_of_error {i : Instr} {s : State} (h : (code i s).code ≠ 0x00) :
    i = .config ∨ (i.mnemonic = .xpEval ∧ (code i s).code = 0x03) := by
  cases i with
  | config => exact .inl rfl
  | xpEval p =>
    refine .inr ⟨rfl, ?_⟩
    rw [code] at h ⊢
    split at h
    · next htwo => rw [if_pos htwo]; rfl
    · exact absurd rfl h
  | _ => exact absurd rfl h

/-- Settles O18: an error comes from a failed check, and then nothing is written, or with the writes, and
then it is one of the two exceptions. -/
theorem errorsArePrecise : Obligations.ErrorsArePrecise := by
  intro i s
  rw [exec_eq_finish]
  rcases finish_cases (checks i s) s (writes i s) (code i s) with ⟨e, -, hfails⟩ | ⟨-, hpasses⟩
  · exact ⟨_, hfails, fun _ _ _ => s.complete_eq_completedWith e⟩
  · refine ⟨_, hpasses, fun herr hconfig hxpEval => ?_⟩
    rcases code_of_error herr with hi | hi
    · exact absurd hi hconfig
    · exact absurd hi hxpEval

/-! ## Idling (R214) -/

/-- While BUSY = 0 the engine's turn changes nothing. -/
theorem engineTurn_of_idle {s : State} (hidle : s.status.busy = false) : engineTurn s = .next s := by
  rw [engineTurn, hidle]
  rfl

/-- Settles O7: the engine's turn only leaves the schedule. -/
theorem idleBlockKeepsItsState : Obligations.IdleBlockKeepsItsState := by
  intro s rest hturn hidle
  calc step s = engineTurn (s.popped rest) := step_of_engineHasTurn hturn
    _ = .next (s.popped rest) := engineTurn_of_idle hidle

end Sys2Proof.Proofs.Exceptions

/-! # Reset, and the life of a pending command (70_reset_and_hazards.md R230, R234)

A pending command is unaffected by the host's admitted accesses (`StillPending`), and the engine's turn
completes it; induction over the schedule joins the two. -/

namespace Sys2Proof.Proofs.Hazards

open Sys2Proof.Machine Sys2Proof.Proofs.Commands Sys2Proof.Proofs.Window Sys2Proof.Proofs.Invariant
open Sys2Proof.Proofs.Encoding Sys2Proof.Proofs.Exceptions

/-! ## The engine's turn on a pending command -/

/-- A pending word that decodes runs as the command it decodes to. -/
theorem engineTurn_of_decode {s : State} {i : Instr} (hbusy : s.status.busy = true) (hdecode : decode s.cw = .ok i) :
    engineTurn s = exec i s := by
  rw [engineTurn, if_pos hbusy, hdecode]

/-- Settles O5: taking the turn from the schedule changes neither BUSY nor the latched word. -/
theorem stepRunsTheDecodedCommand : Obligations.StepRunsTheDecodedCommand := by
  intro s rest i hturn hbusy hdecode
  calc step s = engineTurn (s.popped rest) := step_of_engineHasTurn hturn
    _ = exec i (s.popped rest) := engineTurn_of_decode hbusy hdecode

/-- t is the completion of the command word w: BUSY is 0, DONE is 1, and LASTOP is w's opcode byte (R23). -/
structure HasCompleted (w : Word) (t : State) : Prop where
  idle : t.status.busy = false
  done : t.status.done = true
  lastop : t.status.lastop = w.extractLsb' 0 8

/-- Completing, with whatever code, completes the latched word. -/
theorem hasCompleted_complete (s : State) (e : ErrCode) : HasCompleted s.cw (s.complete e) := ⟨rfl, rfl, rfl⟩

/-- A command's writes leave the latch, so it is the latched word that completes. -/
theorem exec_completes (i : Instr) (s : State) : ∃ t, exec i s = .next t ∧ HasCompleted s.cw t := by
  obtain ⟨e, u, heq, hu⟩ := exec_next i s
  have hcw : u.cw = s.cw := by
    rcases hu with rfl | rfl
    · rfl
    · obtain ⟨⟨-, -, -, -, -, -, hcw, -⟩, -⟩ := frame_writes i s
      exact hcw
  exact ⟨_, heq, hcw ▸ hasCompleted_complete u e⟩

/-- The engine's turn completes the pending word, legal or not. -/
theorem engineTurn_completes {s : State} (hbusy : s.status.busy = true) :
    ∃ t, engineTurn s = .next t ∧ HasCompleted s.cw t := by
  rcases engineTurn_cases s with ⟨hidle, -⟩ | ⟨-, i, -, heq⟩ | ⟨-, -, heq⟩
  · rw [hbusy] at hidle
    cases hidle
  · rw [heq]
    exact exec_completes i s
  · exact ⟨_, heq, hasCompleted_complete s .illegal⟩

/-- When the engine has the turn, the step completes the pending word. -/
theorem step_completes {s : State} {rest : List Event} (hturn : EngineHasTurn s rest) (hbusy : s.status.busy = true) :
    ∃ t, step s = .next t ∧ HasCompleted s.cw t := by
  rw [step_of_engineHasTurn hturn]
  exact engineTurn_completes (s := s.popped rest) hbusy

/-! ## A host access while a command is pending -/

/-- In u a command is still pending, and it is the one of s: same word, same snapshot (R32), under the
same parameters and before the same schedule. -/
structure StillPending (s u : State) : Prop where
  busy : u.status.busy = true
  cw : u.cw = s.cw
  snap : u.snap = s.snap
  params : u.params = s.params
  schedule : u.schedule = s.schedule

/-- A STATUS write changes no BUSY (R23). -/
theorem w1c_busy (st : Status) (v : Word) : (st.w1c v).busy = st.busy := by
  rw [Status.w1c_eq]

/-- A CMD write while BUSY = 1 is dropped (R22). -/
theorem stillPending_issue {s : State} (hbusy : s.status.busy = true) (w : Word) : StillPending s (s.issue w) := by
  rcases issue_cases s w with ⟨-, heq⟩ | ⟨hidle, -⟩
  · rw [heq]
    exact ⟨hbusy, rfl, rfl, rfl, rfl⟩
  · rw [hbusy] at hidle
    cases hidle

/-- No register's write action disturbs a pending command (R32). -/
theorem stillPending_writeReg {s : State} (hbusy : s.status.busy = true) (r : Reg) (v : Word) :
    StillPending s (writeReg r v s) := by
  cases r with
  | cmd => exact stillPending_issue hbusy v
  | status => exact ⟨(w1c_busy s.status v).trans hbusy, rfl, rfl, rfl, rfl⟩
  | _ => exact ⟨hbusy, rfl, rfl, rfl, rfl⟩

/-- Nor does a write to any slot: the reserved ones ignore it (R33). -/
theorem stillPending_writeSlot {s : State} (hbusy : s.status.busy = true) (off : Nat) (v : Word) :
    StillPending s (writeSlot off v s) := by
  unfold writeSlot
  cases Reg.ofOffset off with
  | none => exact ⟨hbusy, rfl, rfl, rfl, rfl⟩
  | some r => exact stillPending_writeReg hbusy r v

/-- A step on a schedule that keeps the block going either is an engine's turn, or is a host access that has
a next state and leaves the command pending. -/
theorem step_engine_or_stillPending {s : State} {e : Event} {rest : List Event} (hsched : s.schedule = e :: rest)
    (hbusy : s.status.busy = true) (he : KeepsGoing s.params e) :
    EngineHasTurn s rest ∨ ∃ u, step s = .next u ∧ StillPending (s.popped rest) u := by
  cases e with
  | engine => exact .inl (.inl hsched)
  | load addr width =>
    obtain ⟨rfl, j, hj, rfl⟩ := he
    exact .inr ⟨_, step_of_load hj hsched, hbusy, rfl, rfl, rfl, rfl⟩
  | store addr width v =>
    obtain ⟨rfl, j, hj, rfl⟩ := he
    exact .inr ⟨_, step_of_store hj hsched, stillPending_writeSlot (s := s.popped rest) hbusy _ v⟩
  | reset => exact he.elim

/-! ## Every accepted command completes (R234) -/

/-- A run of k + 1 steps is a step and a run of k steps from there. -/
theorem run_succ_of_step {M : Host.Core} {s u : M.State} (h : M.step s = .next u) (k : Nat) :
    M.run (k + 1) s = M.run k u := by
  simp only [Host.Core.run, h]

/-- Settles O21, by induction on the schedule: an engine's turn, or the end of the schedule, completes the
command at once, and a host access leaves the same command pending before a shorter schedule. -/
theorem pendingCommandCompletes : Obligations.PendingCommandCompletes := by
  intro s hbusy hgoing
  induction hsched : s.schedule generalizing s with
  | nil =>
    obtain ⟨t, hstep, hdone⟩ := step_completes (.inr ⟨hsched, rfl⟩) hbusy
    exact ⟨0, Nat.le_refl 0, s, t, rfl, hbusy, rfl, rfl, hstep, hdone.idle, hdone.done, hdone.lastop⟩
  | cons e rest ih =>
    rw [hsched, List.forall_mem_cons] at hgoing
    obtain ⟨he, hrest⟩ := hgoing
    rcases step_engine_or_stillPending hsched hbusy he with hturn | ⟨u, hstep, hpending⟩
    · obtain ⟨t, hstep, hdone⟩ := step_completes hturn hbusy
      exact ⟨0, Nat.zero_le _, s, t, rfl, hbusy, rfl, rfl, hstep, hdone.idle, hdone.done, hdone.lastop⟩
    · have hsched' : u.schedule = rest := hpending.schedule
      have hgoing' : ∀ e ∈ u.schedule, KeepsGoing u.params e := by
        rw [hsched', hpending.params]
        exact hrest
      obtain ⟨k, hk, m, t, hrun, hmbusy, hcw, hsnap, hlast, hidle, hdone, hop⟩ := ih u hpending.busy hgoing' hsched'
      rw [hpending.cw] at hcw hop
      exact ⟨k + 1, Nat.succ_le_succ hk, m, t, (run_succ_of_step (M := core) hstep k).trans hrun, hmbusy, hcw,
        hsnap.trans hpending.snap, hlast, hidle, hdone, hop⟩

/-! ## Reset (R230) -/

/-- After the reset input every entry of the register table is 0. -/
theorem registerTable_assertReset (s : State) : ∀ p ∈ registerTable s.assertReset, p.2 = 0 := by
  intro p hp
  rw [registerTable_eq, List.mem_map] at hp
  obtain ⟨j, -, rfl⟩ := hp
  exact readSlot_assertReset (8 * j) s

/-- Settles O15: the reset block is idle, so the next engine's turn completes nothing. -/
theorem resetClearsTheBlock : Obligations.ResetClearsTheBlock := by
  intro s rest hsched
  have hstep : step s = .next (s.popped rest).assertReset := step_of_schedule hsched
  exact ⟨_, hstep, registerTable_assertReset _, rfl, rfl, rfl, rfl, rfl,
    fun rest' hrest => idleBlockKeepsItsState _ rest' (.inl hrest) rfl⟩

/-- Settles O25: the reset state is one to which the reset input was applied. -/
theorem invariantHoldsAtReset : Obligations.InvariantHoldsAtReset := invariant_assertReset State.reset

end Sys2Proof.Proofs.Hazards
